-- ==== Sys2Proof/Word.lean ====
section
/-! DEFINITION. The word types of the link and the tables: bytes, 16-bit values and 32-bit counters. -/

namespace Sys2Proof

/-- One byte of a frame, a table code or a tag (chapter 4). -/
abbrev Byte := BitVec 8

/-- A 16-bit value: a sample, a breakpoint coordinate, a frame check, a slot or group counter. -/
abbrev Half := BitVec 16

/-- A 32-bit value: a device counter, a generation, a body CRC. -/
abbrev Word := BitVec 32

end Sys2Proof
end

