-- ==== Sys2Proof/Syntax.lean ====
section
/-! DEFINITION. The commands of the block: one constructor of Instr per row of spec/opcode_table.json.
A row is one whole, indivisible step of the part (95_what_each_step_holds.md).
A step that acts on something the part already holds (the frame in a receiver, the head of a queue) carries no operand. -/

namespace Sys2Proof

/-- The two chain-link ports (R66): U faces the acquisition side, D faces the controller. -/
inductive Port where
  | u
  | d
  deriving DecidableEq, Repr

/-- The symbols that can end an open frame (R66, R67): another START, END, IDLE, or INVALID (which covers loss of lock). -/
inductive EndSymbol where
  | start
  | close
  | idle
  | invalid
  deriving DecidableEq, Repr

/-- What makes a hard reset (R185): a low level on RESET_N that has lasted `durationUs` µs,
or supplies at the given levels in millivolts. -/
inductive ResetCause where
  | resetLow (durationUs : Nat)
  | supplies (vddMv vddioMv : Nat)
  deriving DecidableEq, Repr

/-- The pins as they stand at the moment a release of the hard reset is offered (R185, R186).
`supplyGoodUs` is how many µs both supplies have stood at or above their levels. -/
structure ReleasePins where
  resetHigh    : Bool
  vddMv        : Nat
  vddioMv      : Nat
  supplyGoodUs : Nat
  deriving DecidableEq, Repr

/-- What the nonvolatile store gives when a load reads a body (R160, R176):
the bytes as they were saved, or other bytes, because the body has changed since its save. -/
inductive BodyRead where
  | asStored
  | changed (bytes : List Byte)
  deriving DecidableEq, Repr

/-- One directory copy of the nonvolatile store (R161).
The boot and mask bytes are raw, so that a copy may hold values out of range; `check` is the CRC-32 that the copy carries. -/
structure DirCopy where
  sequence : Half
  boot     : Byte
  fallback : Bool
  mask     : Byte
  check    : Word
  deriving DecidableEq, Repr

/-- What the read-back of a directory write finds (R180): the copy as written, or something else,
in which case the part erases the copy and `left` is what the store holds there afterwards. -/
inductive DirReadBack where
  | same
  | differs (left : DirCopy)
  deriving DecidableEq, Repr

/-- The commands, in the order of spec/opcode_table.json. -/
inductive Instr where
  | hardReset (cause : ResetCause)
  | hardResetRelease (pins : ReleasePins)
  | checkError (port : Port)
  | malformed (port : Port) (symbol : EndSymbol)
  | forwardFrameAccepted
  | intakeSampleFrame
  | intakePassingFrame
  | waitingFramePlaced
  | correctionDone
  | stalledOutputPlaced
  | dFrameStart
  | dFrameSent
  | uFrameStart
  | uFrameSent
  | requestFrame
  | enumerateFrame
  | holdFrame
  | releaseFrame
  | holdTimerExpiry
  | refreshTimerExpiry
  | commitTimerExpiry
  | enumerateTaken
  | badCode
  | identify
  | readStatus
  | setLink
  | restart
  | releaseAddress
  | writeGroup
  | writeMap
  | writeCurve
  | writePoints
  | readTable
  | readCounters
  | evaluate
  | copyActive
  | clearShadow
  | validate
  | commit
  | cancelCommit
  | storeDirectory
  | storeSave
  | storeLoad
  | storeErase
  | storeSetBoot
  | storeProtect
  | heldResponseEnters
  | successorEnters
  | noticeFormed
  | copyComplete
  | testComplete
  | saveComplete (readsBack : Bool)
  | loadComplete (read : BodyRead)
  | eraseComplete (readsErased : Bool)
  | directoryWriteComplete (readBack : DirReadBack)
  | scanComplete
  | frameOpens (port : Port)
  | dataByteAppended (port : Port) (byte : Byte)
  deriving DecidableEq, Repr

end Sys2Proof
end

