-- ==== Sys2Proof/Decode.lean ====
section
/-! DEFINITION. The command a word spells by the bits of spec/opcode_table.json.
The table gives no row any bits (98_reader.md counts 0 rows with fixed bits and 0 with fields), so no word spells a command.
The bytes of frames on the link are read in Machine/Frames.lean. -/

namespace Sys2Proof

/-- No row of the table has bits, so every word is refused. -/
def decodeTableWord (_nbits _w : Nat) : Option Instr := none

end Sys2Proof
end

