-- ==== Sys2Proof/Machine/Bytes.lean ====
section
/-! DEFINITION. Byte order (most significant byte first, chapter 00 Conventions) and the two cyclic checks (R69, R79). -/

namespace Sys2Proof.Machine

/-- A count or code as one byte. -/
def byteOf (n : Nat) : Byte := BitVec.ofNat 8 n

/-- A 16-bit field, high byte first. -/
def halfBytes (h : Half) : List Byte := [h.extractLsb' 8 8, h.extractLsb' 0 8]

/-- A 32-bit field, highest byte first. -/
def wordBytes (w : Word) : List Byte :=
  [w.extractLsb' 24 8, w.extractLsb' 16 8, w.extractLsb' 8 8, w.extractLsb' 0 8]

/-- The 16-bit field that two bytes hold, high byte first. -/
def halfOf (hi lo : Byte) : Half := hi ++ lo

/-- The 16-bit fields that a run of bytes holds; an odd last byte is no field. -/
def halvesOf : List Byte → List Half
  | hi :: lo :: rest => halfOf hi lo :: halvesOf rest
  | _ => []

/-- `f` applied `n` times. -/
def iterate {α : Type} (f : α → α) : Nat → α → α
  | 0, a => a
  | n + 1, a => iterate f n (f a)

/-- One bit of the frame check: polynomial 1021h, most significant bit first (R69). -/
def crc16Bit (c : Half) : Half := if c.msb then (c <<< 1) ^^^ 0x1021#16 else c <<< 1

/-- One byte of the frame check (R69). -/
def crc16Byte (c : Half) (b : Byte) : Half := iterate crc16Bit 8 (c ^^^ (b.setWidth 16 <<< 8))

/-- R69: the frame check over the given bytes, initial value FFFFh, no final inversion. -/
def frameCheck (bytes : List Byte) : Half := bytes.foldl crc16Byte 0xFFFF#16

/-- One bit of the body CRC: polynomial 04C11DB7h reflected, least significant bit first (R79). -/
def crc32Bit (c : Word) : Word := if c.getLsbD 0 then (c >>> 1) ^^^ 0xEDB88320#32 else c >>> 1

/-- One byte of the body CRC (R79). -/
def crc32Byte (c : Word) (b : Byte) : Word := iterate crc32Bit 8 (c ^^^ b.setWidth 32)

/-- R79: the CRC-32 over the given bytes, initial value and final exclusive-or FFFFFFFFh. -/
def bodyCheck (bytes : List Byte) : Word := ~~~ (bytes.foldl crc32Byte 0xFFFFFFFF#32)

/-- A 16-bit counter that stays at 65535 once it has reached it (R35, R36, R41, R42), increased by `n`. -/
def satAdd (c : Half) (n : Nat) : Half := BitVec.ofNat 16 (min (c.toNat + n) 65535)

end Sys2Proof.Machine
end

