-- ==== Sys2Proof/Config.lean ====
section
/-! DEFINITION. What is fixed for the part: its capacities, and the free values the spec leaves open (constants without a body, applied to State's counter). -/

namespace Sys2Proof.Config

/-- Places of the ingress queue (R89). -/
@[simp] abbrev ingressPlaces : Nat := 8
/-- Places of the forward egress queue (R91). -/
@[simp] abbrev egressPlaces : Nat := 8
/-- Places of the local queue (R93). -/
@[simp] abbrev localPlaces : Nat := 4
/-- Places of the request queue (R114). -/
@[simp] abbrev requestPlaces : Nat := 4
/-- Places of the reverse forward queue (R120). -/
@[simp] abbrev reversePlaces : Nat := 8
/-- Bytes of the largest frame (R67). -/
@[simp] abbrev frameBytes : Nat := 72
/-- Ingress occupancy at which the upstream hold is asserted (R101). -/
@[simp] abbrev holdAt : Nat := 6
/-- Ingress occupancy at which the upstream hold is lifted (R103). -/
@[simp] abbrev releaseAt : Nat := 2
/-- Bytes of a profile body (R79). -/
@[simp] abbrev bodyBytes : Nat := 1584
/-- RESET_N low time, in µs, that makes a hard reset (R185). -/
@[simp] abbrev resetLowUs : Nat := 10
/-- VDD level in mV below which the part holds itself in hard reset (R185). -/
@[simp] abbrev vddLevelMv : Nat := 1080
/-- VDDIO level in mV below which the part holds itself in hard reset (R185). -/
@[simp] abbrev vddioLevelMv : Nat := 2970
/-- Time in µs the part stays in hard reset after both supplies have risen (R185). -/
@[simp] abbrev powerGoodUs : Nat := 2000

/-- FREE VALUE (log 4): whether an interrupted erase had got past its phase 2 with the marker reading ERASED (R183). -/
opaque eraseLeftErased : Nat → Bool

/-- FREE VALUE (log 4): the body an interrupted or failed save or erase leaves in the store, none when it reads fully erased (R174, R178, R183). -/
opaque bodyLeft : Nat → Option (List Byte)

/-- FREE VALUE (log 4): the sequence field an interrupted directory write leaves in its target copy (R183). -/
opaque dirSequenceLeft : Nat → Half
/-- FREE VALUE (log 4): the boot slot byte an interrupted directory write leaves in its target copy (R183). -/
opaque dirBootLeft : Nat → Byte
/-- FREE VALUE (log 4): the fallback flag an interrupted directory write leaves in its target copy (R183). -/
opaque dirFallbackLeft : Nat → Bool
/-- FREE VALUE (log 4): the mask byte an interrupted directory write leaves in its target copy (R183). -/
opaque dirMaskLeft : Nat → Byte
/-- FREE VALUE (log 4): the check an interrupted directory write leaves in its target copy, which fails it whatever this value (R183). -/
opaque dirCheckLeft : Nat → Word

/-- FREE VALUE (log 13): whether the END of the frame in transmission on port U had been sent when a restart begins. The transmitter is
SENDING until the gap after the END has passed (R94, R121), and only a frame cut short is followed by INVALID (R72). -/
opaque endSent : Nat → Bool

/-- FREE VALUE (log 5): whether the COMMIT_DONE that a CANCEL_COMMIT raises is taken before the response of that CANCEL_COMMIT (R62, R93). -/
opaque cancelNoticeFirst : Nat → Bool

end Sys2Proof.Config
end

