-- ==== Sys2Proof/Machine/State.lean ====
section
/-! DEFINITION. Everything the spec gives the WJ1616 to hold, as plain data, and its value after a hard reset.
The types stand in the order of the chapters: banks, frames, forward path, reverse path, engine, notices, store, start-up.
Functions over them stand in the other files of this folder. -/

namespace Sys2Proof.Machine

/-! ### Calibration banks (chapter 1) -/

/-- R3: what a group's entry does to its Sample frames. -/
inductive GroupMode where
  | bypass
  | process
  | block
  deriving DecidableEq, Repr

/-- R3 to R5: mode, output group 0..15, emit count 0..16. -/
structure GroupEntry where
  mode : GroupMode
  out  : Fin 16
  emit : Fin 17
  deriving DecidableEq, Repr

/-- R6: the action of a map entry. -/
inductive Action where
  | correct
  | pass
  deriving DecidableEq, Repr

/-- R6: the five fields of an in-use map slot. -/
structure MapEntry where
  group  : Fin 16
  pos    : Fin 16
  action : Action
  curve  : Fin 32
  out    : Fin 16
  deriving DecidableEq, Repr

/-- R10: what a curve gives outside its x range. -/
inductive EndPolicy where
  | clamp
  | extend
  | mark
  deriving DecidableEq, Repr

/-- R9: a defined curve entry. The range 2..16 of `count` and the span bound are kept by every write (Safety.lean). -/
structure CurveDef where
  start  : Fin 256
  count  : Nat
  policy : EndPolicy
  deriving DecidableEq, Repr

/-- R11: a breakpoint; both coordinates are signed 16-bit values. -/
structure Point where
  x : Half
  y : Half
  deriving DecidableEq, Repr

/-- R1: a bank's four tables. An empty slot and an undefined curve are `none` (R6, R9). -/
structure Bank where
  groups : Vector GroupEntry 16
  slots  : Vector (Option MapEntry) 64
  curves : Vector (Option CurveDef) 32
  points : Vector Point 256
  deriving DecidableEq, Repr

/-- R13: the empty bank. -/
def Bank.empty : Bank where
  groups := Vector.ofFn fun g => { mode := .bypass, out := g, emit := 0 }
  slots  := Vector.replicate 64 none
  curves := Vector.replicate 32 none
  points := Vector.replicate 256 { x := 0, y := 0 }

/-- R45: the two banks. Their roles are a property of the pair. -/
inductive BankName where
  | a
  | b
  deriving DecidableEq, Repr

/-- R19: the fault kinds of a failed test. -/
inductive FaultKind where
  | curveOrder
  | dupKey
  | curveMissing
  | outposDup
  | groupEmpty
  | outposHole
  | groupClash
  deriving DecidableEq, Repr

/-- R19: one fault, a kind and the index of the curve, slot or group it names. -/
structure TestFault where
  kind  : FaultKind
  index : Fin 64
  deriving DecidableEq, Repr

/-! ### Frames (chapter 4) -/

/-- R73. The count field is the length of `samples`; `check` is the frame check the frame carries. -/
structure SampleFrame where
  group    : Fin 16
  sequence : Byte
  flags    : Byte
  samples  : List Half
  check    : Half
  deriving DecidableEq, Repr

/-- R75. The data length field is the length of `data`. -/
structure ResponseFrame where
  source : Byte
  tag    : Byte
  code   : Byte
  result : Byte
  data   : List Byte
  check  : Half
  deriving DecidableEq, Repr

/-- R76. The data length field is the length of `data`. -/
structure NoticeFrame where
  source : Byte
  tag    : Byte
  code   : Byte
  data   : List Byte
  check  : Half
  deriving DecidableEq, Repr

/-- R74. The parameter length field is the length of `params`. -/
structure RequestFrame where
  target : Fin 32
  tag    : Byte
  code   : Byte
  params : List Byte
  check  : Half
  deriving DecidableEq, Repr

/-- R77: an Enumerate frame, next address 1..31. -/
structure EnumFrame where
  next  : Fin 32
  tag   : Byte
  check : Half
  deriving DecidableEq, Repr

/-- R77: a Hold frame (duration in units of 16 µs) or a Release frame. -/
inductive LinkFrame where
  | hold (duration : Byte) (check : Half)
  | release (check : Half)
  deriving DecidableEq, Repr

/-- R70: the forward kinds. -/
inductive ForwardFrame where
  | sample (f : SampleFrame)
  | response (f : ResponseFrame)
  | notice (f : NoticeFrame)
  deriving DecidableEq, Repr

/-- R70: the reverse kinds that a queue can hold (R114, R120). -/
inductive ReverseFrame where
  | request (f : RequestFrame)
  | enumerate (f : EnumFrame)
  deriving DecidableEq, Repr

/-- R93: the frames this part forms for the local queue. -/
inductive LocalFrame where
  | response (f : ResponseFrame)
  | notice (f : NoticeFrame)
  deriving DecidableEq, Repr

/-- An accepted frame of any kind (R70). -/
inductive Frame where
  | forward (f : ForwardFrame)
  | reverse (f : ReverseFrame)
  | link (f : LinkFrame)
  deriving DecidableEq, Repr

/-- R68: the outcome of judging a closed frame. -/
inductive Judgement where
  | checkError
  | malformed
  | accepted (f : Frame)
  deriving DecidableEq, Repr

/-- R67: a receiver between frames, assembling a frame of which it holds the bytes so far, or past 72 bytes. -/
inductive Receiver where
  | idle
  | assembling (bytes : List Byte)
  | oversize
  deriving DecidableEq, Repr

/-! ### Forward path (chapters 2 and 5) -/

/-- R21: the dispatcher intake. -/
inductive Intake where
  | free
  | waiting (f : ForwardFrame)
  | correcting
  deriving DecidableEq, Repr

/-- R26: the correction stage; a bound or stalled frame keeps the bank it is bound to. -/
inductive Stage where
  | idle
  | bound (f : SampleFrame) (bank : BankName)
  | stalled (out : SampleFrame) (bank : BankName)
  deriving DecidableEq, Repr

/-- R27: the sequence tracker of a group. -/
inductive Tracker where
  | unsynced
  | synced (last : Byte)
  deriving DecidableEq, Repr

/-- R41: the counters of one map slot. -/
structure SlotCounters where
  sat   : Half
  range : Half
  deriving DecidableEq, Repr

/-- R42: the counters of one input group. -/
structure GroupCounters where
  gap : Half
  dup : Half
  deriving DecidableEq, Repr

/-- R43, R105, R123: the twelve 32-bit device counters of the status record. -/
structure Counters where
  uAccepted  : Word
  uCheckErr  : Word
  uMalformed : Word
  uOverrun   : Word
  blocked    : Word
  duplicates : Word
  dForwarded : Word
  dLocal     : Word
  rAccepted  : Word
  rBad       : Word
  rOverrun   : Word
  reqDropped : Word
  deriving DecidableEq, Repr

/-- What a transmit lane carries (R66, R72): nothing while in hard reset, IDLE symbols, a frame,
or IDLE after an INVALID symbol has cut a frame off. -/
inductive Lane where
  | silent
  | idle
  | frame
  | cut
  deriving DecidableEq, Repr

/-- R94, R121: the send state of a transmitter, with the frame in transmission. -/
inductive Send (α : Type) where
  | ready
  | sending (f : α)
  deriving DecidableEq, Repr

/-- R94: what port D can be sending, by the queue it came from. -/
inductive DFrame where
  | forward (f : ForwardFrame)
  | ofLocal (f : LocalFrame)
  deriving DecidableEq, Repr

/-- R121: what port U can be sending. -/
inductive UFrame where
  | link (f : LinkFrame)
  | reverse (f : ReverseFrame)
  deriving DecidableEq, Repr

/-- R96: the hold state of the D transmitter; while held, the hold timer runs with the duration given (units of 16 µs). -/
inductive HoldState where
  | free
  | held (duration : Byte)
  deriving DecidableEq, Repr

/-- R95: the last-served source of the arbiter. -/
inductive Source where
  | forward
  | ofLocal
  deriving DecidableEq, Repr

/-- R94, R95: the D transmitter and its arbiter. -/
structure DTransmitter where
  send       : Send DFrame
  hold       : HoldState
  lastServed : Source
  lane       : Lane
  deriving DecidableEq, Repr

/-- R121: the U transmitter. -/
structure UTransmitter where
  send : Send UFrame
  lane : Lane
  deriving DecidableEq, Repr

/-- R100: the upstream hold. -/
inductive UpstreamHold where
  | quiet
  | asserted
  deriving DecidableEq, Repr

/-- R100, R104: the flow control unit and the link-control slot.
`refresh` is none while the refresh timer is STOPPED and its period (units of 16 µs) while RUNNING. -/
structure FlowControl where
  upstream : UpstreamHold
  refresh  : Option Nat
  setting  : Byte
  slot     : Option LinkFrame
  deriving DecidableEq, Repr

/-! ### Request engine (chapter 7) -/

/-- R75: the result codes. -/
inductive Result where
  | ok
  | accepted
  | busy
  | state
  | badCode
  | badLength
  | badParam
  | protected_
  | empty
  | checkFail
  | exhausted
  | noAddress
  | fault
  deriving DecidableEq, Repr

/-- R140: the two forms of a restart. -/
inductive RestartForm where
  | keep
  | reload
  deriving DecidableEq, Repr

/-- R126: what a HOLDING engine holds; `restart` is the form kept when the held response is the OK response of a RESTART. -/
structure Held where
  response  : Option ResponseFrame
  successor : Option EnumFrame
  restart   : Option RestartForm
  deriving DecidableEq, Repr

/-- R126: the request engine. -/
inductive Engine where
  | idle
  | holding (h : Held)
  | restarting (form : RestartForm)
  deriving DecidableEq, Repr

/-! ### Bank controller (chapter 3) -/

/-- R54: the purpose of a test. -/
inductive Purpose where
  | validate
  | commit
  | boot
  deriving DecidableEq, Repr

/-- R47, R54: the shadow state. VALIDATING holds the validation record (purpose, and the tag, absent for BOOT); COPYING holds the kept tag (R50). -/
inductive Shadow where
  | editable
  | copying (tag : Byte)
  | loading
  | validating (purpose : Purpose) (tag : Option Byte)
  | armed
  deriving DecidableEq, Repr

/-- R56: who started a commit. -/
inductive Origin where
  | request
  | boot
  deriving DecidableEq, Repr

/-- R56: the mode of a commit, with the target of mode AT. -/
inductive CommitMode where
  | now
  | atFrame (group : Fin 16) (sequence : Byte)
  deriving DecidableEq, Repr

/-- R56: the commit record; `timer` is true while the commit timer is RUNNING. -/
structure CommitRecord where
  origin  : Origin
  tag     : Option Byte
  mode    : CommitMode
  timeout : Half
  timer   : Bool
  deriving DecidableEq, Repr

/-! ### Profile store (chapter 9) -/

/-- R160, R163: generation, label and image length of a committed header. -/
structure SlotInfo where
  generation : Word
  label      : Vector Byte 8
  length     : Half
  deriving DecidableEq, Repr

/-- R160: a slot header in the store, by its state marker; `unreadable` is a marker that reads as none of the three. -/
inductive Header where
  | erased
  | incomplete
  | valid (info : SlotInfo) (bodyCrc : Word)
  | unreadable
  deriving DecidableEq, Repr

/-- R160: one slot of the store; an erased body is none. -/
structure NvSlot where
  header : Header
  body   : Option (List Byte)
  deriving DecidableEq, Repr

/-- R161: the two directory copies. -/
inductive CopyName where
  | copy0
  | copy1
  deriving DecidableEq, Repr

/-- R160, R161: the content of the nonvolatile store. -/
structure NvStore where
  slots : Vector NvSlot 4
  copy0 : DirCopy
  copy1 : DirCopy
  deriving DecidableEq, Repr

/-- R163: an entry of the slot table. -/
inductive SlotEntry where
  | empty
  | incomplete
  | valid (info : SlotInfo)
  | damaged (info : SlotInfo)
  deriving DecidableEq, Repr

/-- R161, R164: a directory setting: boot slot (none is NONE), fallback flag, protection mask. -/
structure DirSetting where
  boot     : Option (Fin 4)
  fallback : Bool
  mask     : BitVec 4
  deriving DecidableEq, Repr

/-- R164: the directory view. -/
structure DirView where
  setting  : DirSetting
  inForce  : Option CopyName
  sequence : Half
  deriving DecidableEq, Repr

/-- R166: the operation record. A load carries the tag of its STORE_LOAD, or none for origin BOOT; a scan has origin RESET. -/
inductive StoreOp where
  | scan
  | save (tag : Byte) (slot : Fin 4) (generation : Word) (label : Vector Byte 8)
  | load (tag : Option Byte) (slot : Fin 4)
  | erase (tag : Byte) (slot : Fin 4)
  | dirWrite (tag : Byte) (setting : DirSetting) (target : CopyName) (sequence : Half)
  deriving DecidableEq, Repr

/-- R163 to R166: the store controller; `op` is none while IDLE. -/
structure StoreController where
  op     : Option StoreOp
  table  : Vector SlotEntry 4
  view   : DirView
  buffer : Option (List Byte)
  deriving DecidableEq, Repr

/-! ### Notice unit (chapter 8) -/

/-- R150: the completion kinds, in ascending code. -/
inductive CompletionKind where
  | copyDone
  | validateDone
  | commitDone
  | loadDone
  | saveDone
  | eraseDone
  | directoryDone
  deriving DecidableEq, Repr

/-- R150: the unsolicited kinds, in ascending code. -/
inductive UnsolicitedKind where
  | bootDone
  | overrun
  | sequence
  deriving DecidableEq, Repr

/-- R86, R151: what a completion notice reports, fixed when its operation ends. A failed save carries no generation. -/
inductive Completion where
  | copyDone
  | validateDone (fault : Option TestFault)
  | commitSwapped (bank : BankName)
  | commitInvalid (fault : TestFault)
  | commitExpired
  | commitCancelled
  | loadDone (result : Result) (slot : Fin 4)
  | saveDone (generation : Option Word) (slot : Fin 4)
  | eraseDone (result : Result) (slot : Fin 4)
  | directoryDone (result : Result) (setting : DirSetting)
  deriving DecidableEq, Repr

/-- R151: a raised completion notice with the tag its owner kept. -/
structure CompletionNotice where
  tag  : Byte
  what : Completion
  deriving DecidableEq, Repr

/-- R151: the pending notice and the follower place of one completion kind. -/
structure CompletionPlaces where
  pending  : Option CompletionNotice
  follower : Option CompletionNotice
  deriving DecidableEq, Repr

/-- R152: the outstanding state of an unsolicited kind. -/
inductive Outstanding where
  | idle
  | pending
  | queued
  deriving DecidableEq, Repr

/-- R155: the boot outcome. -/
inductive BootOutcome where
  | loaded (slot : Fin 4) (generation : Word)
  | empty
  | kept
  deriving DecidableEq, Repr

/-- Chapter 8: the notice unit. `completions` is indexed by completion kind in ascending code.
`accumulator` is the group set of SEQUENCE, bit g for group g (R86, R154); `overrunSet` is the indication of R153. -/
structure NoticeUnit where
  mask        : BitVec 3
  completions : Vector CompletionPlaces 7
  bootDone    : Outstanding
  bootOutcome : Option BootOutcome
  overrun     : Outstanding
  overrunSet  : Bool
  sequence    : Outstanding
  accumulator : Half
  deriving DecidableEq, Repr

/-! ### Start-up (chapter 10) -/

/-- R184: the mode of the part. -/
inductive Mode where
  | booting
  | running
  deriving DecidableEq, Repr

/-- R187: the phase of the boot. -/
inductive BootPhase where
  | scan
  | load
  | test
  deriving DecidableEq, Repr

/-- R187: the boot record; `tried` lists the slots already chosen. -/
structure BootRecord where
  phase     : BootPhase
  candidate : Option (Fin 4 × Word)
  tried     : List (Fin 4)
  deriving DecidableEq, Repr

/-- R185: the reset and supply inputs as last presented, in millivolts. -/
structure Pins where
  resetHigh : Bool
  vddMv     : Nat
  vddioMv   : Nat
  deriving DecidableEq, Repr

/-- The state of the part. `pending` is the model's own queue of commands that wait to be taken, front first;
`freeCount` is the model's own counter behind the free values of Config (log 4). -/
structure State where
  pending      : List Instr
  held         : Bool
  pins         : Pins
  mode         : Mode
  boot         : Option BootRecord
  uRx          : Receiver
  dRx          : Receiver
  ingress      : List ForwardFrame
  intake       : Intake
  stage        : Stage
  trackers     : Vector Tracker 16
  slotCounts   : Vector SlotCounters 64
  groupCounts  : Vector GroupCounters 16
  egress       : List ForwardFrame
  localQ       : List LocalFrame
  dTx          : DTransmitter
  uTx          : UTransmitter
  flow         : FlowControl
  counters     : Counters
  address      : Fin 31
  requestQ     : List ReverseFrame
  reverseQ     : List ReverseFrame
  engine       : Engine
  notices      : NoticeUnit
  bankA        : Bank
  bankB        : Bank
  active       : BankName
  shadow       : Shadow
  commit       : Option CommitRecord
  store        : StoreController
  nv           : NvStore
  freeCount    : Nat
  deriving DecidableEq, Repr

/-- No rule of the spec asks for a stop: every command has an effect or, where its occasion is not there, none.
The one constructor is raised by no meaning; it stands so that the type is inhabited (safe). -/
inductive Fault where
  /-- Raised by nothing (safe). -/
  | unreached
  deriving DecidableEq, Repr

/-- The reasons a command is refused. -/
inductive Refusal where
  /-- Raised by exec for a command that has no meaning yet; no arm raises it (safe). -/
  | notModelled (mnemonic : String)
  deriving DecidableEq, Repr

/-! ### Values after hard reset (table 10.2.1) -/

/-- R43, R105, R123: every device counter is 0. -/
def Counters.zero : Counters :=
  { uAccepted := 0, uCheckErr := 0, uMalformed := 0, uOverrun := 0, blocked := 0, duplicates := 0,
    dForwarded := 0, dLocal := 0, rAccepted := 0, rBad := 0, rOverrun := 0, reqDropped := 0 }

/-- R159: the notice unit with nothing pending and the given enable mask. -/
def NoticeUnit.clear (mask : BitVec 3) : NoticeUnit :=
  { mask := mask, completions := Vector.replicate 7 { pending := none, follower := none },
    bootDone := .idle, bootOutcome := none, overrun := .idle, overrunSet := false,
    sequence := .idle, accumulator := 0 }

/-- R161, R164: boot NONE, fallback OFF, mask 0. -/
def DirSetting.none : DirSetting := { boot := Option.none, fallback := false, mask := 0 }

/-- R164: the view after hard reset. -/
def DirView.none : DirView := { setting := DirSetting.none, inForce := Option.none, sequence := 0 }

/-- A directory copy as in an erased store (R162, log 2); its check does not match its fields. -/
def erasedCopy : DirCopy := { sequence := 0, boot := 0, fallback := false, mask := 0, check := 0 }

/-- R162: the store of a part delivered with an erased store. -/
def NvStore.erased : NvStore :=
  { slots := Vector.replicate 4 { header := .erased, body := none }, copy0 := erasedCopy, copy1 := erasedCopy }

/-- The part right after a hard reset has been released (R186, table 10.2.1), with the store as delivered (R162, log 2). -/
def State.reset : State where
  pending := []
  held := false
  pins := { resetHigh := true, vddMv := 1200, vddioMv := 3300 }
  mode := .booting
  boot := some { phase := .scan, candidate := none, tried := [] }
  uRx := .idle
  dRx := .idle
  ingress := []
  intake := .free
  stage := .idle
  trackers := Vector.replicate 16 .unsynced
  slotCounts := Vector.replicate 64 { sat := 0, range := 0 }
  groupCounts := Vector.replicate 16 { gap := 0, dup := 0 }
  egress := []
  localQ := []
  dTx := { send := .ready, hold := .free, lastServed := .ofLocal, lane := .idle }
  uTx := { send := .ready, lane := .idle }
  flow := { upstream := .quiet, refresh := none, setting := 64, slot := none }
  counters := Counters.zero
  address := 0
  requestQ := []
  reverseQ := []
  engine := .idle
  notices := NoticeUnit.clear 7
  bankA := Bank.empty
  bankB := Bank.empty
  active := .a
  shadow := .editable
  commit := none
  store := { op := some .scan, table := Vector.replicate 4 .empty, view := DirView.none, buffer := none }
  nv := NvStore.erased
  freeCount := 0

end Sys2Proof.Machine
end

