-- ==== Sys2Proof/Machine/Tables.lean ====
section
/-! DEFINITION. Table entries and bank images as bytes (R78, R79), and the code bytes of the records (R75, R81, R84, R85). -/

namespace Sys2Proof.Machine

/-- `n` bytes from an offset on. -/
def slice (bytes : List Byte) (offset n : Nat) : List Byte := (bytes.drop offset).take n

/-! ### Codes -/

/-- R78. -/
def GroupMode.code : GroupMode → Byte
  | .bypass => 0x00
  | .process => 0x01
  | .block => 0x02

/-- R78. -/
def groupModeOf (b : Byte) : Option GroupMode :=
  if b = 0x00 then some .bypass else if b = 0x01 then some .process else if b = 0x02 then some .block else none

/-- R78. -/
def Action.code : Action → Byte
  | .correct => 0x00
  | .pass => 0x01

/-- R78. -/
def actionOf (b : Byte) : Option Action :=
  if b = 0x00 then some .correct else if b = 0x01 then some .pass else none

/-- R78. -/
def EndPolicy.code : EndPolicy → Byte
  | .clamp => 0x00
  | .extend => 0x01
  | .mark => 0x02

/-- R78. -/
def endPolicyOf (b : Byte) : Option EndPolicy :=
  if b = 0x00 then some .clamp else if b = 0x01 then some .extend else if b = 0x02 then some .mark else none

/-- R75. -/
def Result.code : Result → Byte
  | .ok => 0x00
  | .accepted => 0x01
  | .busy => 0x02
  | .state => 0x03
  | .badCode => 0x04
  | .badLength => 0x05
  | .badParam => 0x06
  | .protected_ => 0x07
  | .empty => 0x08
  | .checkFail => 0x09
  | .exhausted => 0x0A
  | .noAddress => 0x0B
  | .fault => 0x0C

/-- R84: the code of a fault kind; 00h stands for no fault. -/
def FaultKind.code : FaultKind → Byte
  | .curveOrder => 0x01
  | .dupKey => 0x02
  | .curveMissing => 0x03
  | .outposDup => 0x04
  | .groupEmpty => 0x05
  | .outposHole => 0x06
  | .groupClash => 0x07

/-- R81: 00h A, 01h B. -/
def BankName.code : BankName → Byte
  | .a => 0x00
  | .b => 0x01

/-- R80, R81: 00h BOOTING, 01h RUNNING. -/
def Mode.code : Mode → Byte
  | .booting => 0x00
  | .running => 0x01

/-- A flag as a byte, 00h or 01h. -/
def boolByte (b : Bool) : Byte := if b then 0x01 else 0x00

/-- R85: 00h..03h, or FFh for NONE. -/
def bootByte : Option (Fin 4) → Byte
  | some s => byteOf s
  | none => 0xFF

/-- R85: a boot slot byte; none for a value out of range. -/
def bootSlotOf (b : Byte) : Option (Option (Fin 4)) :=
  if b = 0xFF then some none
  else if h : b.toNat < 4 then some (some ⟨b.toNat, h⟩) else none

/-! ### Entries -/

/-- R78: three bytes. -/
def groupBytes (e : GroupEntry) : List Byte := [e.mode.code, byteOf e.out, byteOf e.emit]

/-- R78: six bytes, all zero for an empty slot. -/
def slotBytes : Option MapEntry → List Byte
  | some e => [0x01, byteOf e.group, byteOf e.pos, e.action.code, byteOf e.curve, byteOf e.out]
  | none => [0, 0, 0, 0, 0, 0]

/-- R78: four bytes, all zero for an undefined curve. -/
def curveBytes : Option CurveDef → List Byte
  | some c => [0x01, byteOf c.start, byteOf c.count, c.policy.code]
  | none => [0, 0, 0, 0]

/-- R78: four bytes. -/
def pointBytes (p : Point) : List Byte := halfBytes p.x ++ halfBytes p.y

/-- A byte as a value below `n`; none when out of range. -/
def finOf (n : Nat) (b : Byte) : Option (Fin n) := if h : b.toNat < n then some ⟨b.toNat, h⟩ else none

/-- R78: a group entry read from three bytes; none for a value not listed. -/
def groupOf : List Byte → Option GroupEntry
  | [m, o, e] => do
    let mode ← groupModeOf m
    let out ← finOf 16 o
    let emit ← finOf 17 e
    return { mode := mode, out := out, emit := emit }
  | _ => none

/-- R78, R144: a map slot read from six bytes; after an in-use byte of 00h the other fields are not examined. -/
def slotOf : List Byte → Option (Option MapEntry)
  | [u, g, p, a, c, o] =>
    if u = 0x00 then some none
    else if u = 0x01 then do
      let group ← finOf 16 g
      let pos ← finOf 16 p
      let action ← actionOf a
      let curve ← finOf 32 c
      let out ← finOf 16 o
      return some { group := group, pos := pos, action := action, curve := curve, out := out }
    else none
  | _ => none

/-- R78, R145: a curve entry read from four bytes; after a defined byte of 00h the other fields are not examined. -/
def curveOf : List Byte → Option (Option CurveDef)
  | [d, start, count, policy] =>
    if d = 0x00 then some none
    else if d = 0x01 then do
      let p ← endPolicyOf policy
      let st ← finOf 256 start
      if 2 ≤ count.toNat ∧ count.toNat ≤ 16 ∧ start.toNat + count.toNat ≤ 256 then
        return some { start := st, count := count.toNat, policy := p }
      else none
    else none
  | _ => none

/-- R78: a point read from four bytes. -/
def pointOf : List Byte → Option Point
  | [xh, xl, yh, yl] => some { x := halfOf xh xl, y := halfOf yh yl }
  | _ => none

/-- A table read entry by entry; none when any entry is refused. -/
def tableOf {α : Type} (n : Nat) (entry : Fin n → Option α) : Option (Vector α n) :=
  if h : ∀ i, (entry i).isSome then some (Vector.ofFn fun i => (entry i).get (h i)) else none

/-! ### Bank image -/

/-- R79: a bank image as a profile body of 1584 bytes. -/
def bankBytes (b : Bank) : List Byte :=
  b.groups.toList.flatMap groupBytes ++ b.slots.toList.flatMap slotBytes ++
    b.curves.toList.flatMap curveBytes ++ b.points.toList.flatMap pointBytes

/-- R79: the bank image that a body holds; none for a body that is not 1584 bytes of codes and ranges of R78. -/
def bankOf (body : List Byte) : Option Bank :=
  if body.length = Config.bodyBytes then do
    let groups ← tableOf 16 fun i => groupOf (slice body (3 * i) 3)
    let slots ← tableOf 64 fun i => slotOf (slice body (48 + 6 * i) 6)
    let curves ← tableOf 32 fun i => curveOf (slice body (432 + 4 * i) 4)
    let points ← tableOf 256 fun i => pointOf (slice body (560 + 4 * i) 4)
    return { groups := groups, slots := slots, curves := curves, points := points }
  else none

end Sys2Proof.Machine
end

