-- ==== Sys2Proof/Machine/Operands.lean ====
section
/-! DEFINITION. The parameter fields of requests (R80 to R85): how they are read, and the ranges of step 4 (R131). -/

namespace Sys2Proof.Machine

/-- Byte `i` of the parameters; requests are judged at step 2 to have the bytes their fields need. -/
def param (params : List Byte) (i : Nat) : Byte := params.getD i 0

/-- Byte `i` of the parameters as a number. -/
def paramNat (params : List Byte) (i : Nat) : Nat := (param params i).toNat

/-- An index field of a table with `n` entries; step 4 has found it in range. -/
def paramFin (n : Nat) [NeZero n] (params : List Byte) (i : Nat) : Fin n := Fin.ofNat n (paramNat params i)

/-- The 16-bit field at byte `i`. -/
def paramHalf (params : List Byte) (i : Nat) : Half := halfOf (param params i) (param params (i + 1))

/-- A code byte that must be 00h or 01h. -/
def isFlag (b : Byte) : Bool := b == 0x00 || b == 0x01

/-- R129: the lengths WRITE_POINTS accepts, 1 + 4n with n in 1..15. -/
def pointsLength (len : Nat) : Bool := decide (5 ≤ len ∧ len ≤ 61) && len % 4 == 1

/-- R129: the lengths EVALUATE accepts, 2 + 2n with n in 1..16. -/
def evaluateLength (len : Nat) : Bool := decide (4 ≤ len ∧ len ≤ 34) && len % 2 == 0

/-- R82, R147: the size of the table a READ_TABLE names and the largest count per answer; none for an unlisted code. -/
def tableBounds (code : Byte) : Option (Nat × Nat) :=
  if code = 0x00 then some (16, 16)
  else if code = 0x01 then some (64, 10)
  else if code = 0x02 then some (32, 16)
  else if code = 0x03 then some (256, 16)
  else none

/-- R83, R148: the size of a counter set and the largest count per answer; none for an unlisted code. -/
def setBounds (code : Byte) : Option (Nat × Nat) :=
  if code = 0x00 then some (64, 16)
  else if code = 0x01 then some (16, 10)
  else none

/-- A first index and a count within the bounds: count in 1..most, first + count at most the size. -/
def readInBounds (bounds : Option (Nat × Nat)) (first count : Nat) : Bool :=
  match bounds with
  | some (size, most) => decide (1 ≤ count ∧ count ≤ most ∧ first + count ≤ size)
  | none => false

/-- R131, R139: hold duration 1..255, mask bits 3..7 clear. -/
def setLinkInRange (p : List Byte) : Bool := param p 0 != 0 && decide (paramNat p 1 < 8)

/-- R140: the form of a restart. -/
def restartFormOf (b : Byte) : Option RestartForm :=
  if b = 0x00 then some .keep else if b = 0x01 then some .reload else none

/-- R143. -/
def writeGroupInRange (p : List Byte) : Bool :=
  decide (paramNat p 0 < 16) && (groupModeOf (param p 1)).isSome && decide (paramNat p 2 < 16)

/-- R144. -/
def writeMapInRange (p : List Byte) : Bool := decide (paramNat p 0 < 64) && (slotOf (p.drop 1)).isSome

/-- R145. -/
def writeCurveInRange (p : List Byte) : Bool := decide (paramNat p 0 < 32) && (curveOf (p.drop 1)).isSome

/-- R146: the number of points of a WRITE_POINTS. -/
def pointsCount (p : List Byte) : Nat := (p.length - 1) / 4

/-- R146: start + n at most 256. -/
def writePointsInRange (p : List Byte) : Bool := decide (paramNat p 0 + pointsCount p ≤ 256)

/-- R147. -/
def readTableInRange (p : List Byte) : Bool :=
  isFlag (param p 0) && readInBounds (tableBounds (param p 1)) (paramNat p 2) (paramNat p 3)

/-- R148. -/
def readCountersInRange (p : List Byte) : Bool :=
  readInBounds (setBounds (param p 0)) (paramNat p 1) (paramNat p 2) && isFlag (param p 3)

/-- R149. -/
def evaluateInRange (p : List Byte) : Bool := isFlag (param p 0) && decide (paramNat p 1 < 32)

/-- R55: the mode of a COMMIT with its target; none for an unlisted mode, or under AT a target group above 15. -/
def commitModeOf (p : List Byte) : Option CommitMode :=
  if param p 0 = 0x00 then some .now
  else if param p 0 = 0x01 then (finOf 16 (param p 1)).map fun g => .atFrame g (param p 2)
  else none

/-- R168: source 00h or 01h, slot 0..3. -/
def storeSaveInRange (p : List Byte) : Bool := isFlag (param p 0) && decide (paramNat p 1 < 4)

/-- R168: slot 0..3. -/
def storeSlotInRange (p : List Byte) : Bool := decide (paramNat p 0 < 4)

/-- R168: boot slot 00h..03h or FFh, fallback 00h or 01h. -/
def setBootInRange (p : List Byte) : Bool := (bootSlotOf (param p 0)).isSome && isFlag (param p 1)

/-- R168: bits 4..7 of the mask clear. -/
def protectInRange (p : List Byte) : Bool := decide (paramNat p 0 < 16)

/-- R85: the 8 label bytes of a STORE_SAVE. -/
def labelOf (p : List Byte) : Vector Byte 8 := Vector.ofFn fun i => param p (2 + i)

end Sys2Proof.Machine
end

