-- ==== Sys2Proof/Machine/Flags.lean ====
section
/-! DEFINITION. The flags byte of a Sample frame (R73) and the flags a corrected frame leaves with (R37, R39).
The RANGE and SAT bits are the same in the indication byte of EVALUATE (R83). -/

namespace Sys2Proof.Machine

/-- Bit 0 of the flags byte. -/
def flagCorrected : Byte := 0x01
/-- Bit 1 of the flags byte. -/
def flagGap : Byte := 0x02
/-- Bit 2 of the flags byte. -/
def flagRange : Byte := 0x04
/-- Bit 3 of the flags byte. -/
def flagSat : Byte := 0x08
/-- Bit 4 of the flags byte. -/
def flagShort : Byte := 0x10

/-- A flag if its occasion arose, else no bit. -/
def flagIf (c : Bool) (f : Byte) : Byte := if c then f else 0

/-- R39: the flags as received, CORRECTED always, and each flag whose occasion arose. -/
def outputFlags (received : Byte) (gap range sat short : Bool) : Byte :=
  received ||| flagCorrected ||| flagIf gap flagGap ||| flagIf range flagRange ||| flagIf sat flagSat ||| flagIf short flagShort

/-- R83: the indication byte of an EVALUATE record. -/
def indication (range sat : Bool) : Byte := flagIf range flagRange ||| flagIf sat flagSat

end Sys2Proof.Machine
end

