-- ==== Sys2Proof/Machine/Frames.lean ====
section
/-! DEFINITION. Frames as bytes: layouts (R73 to R77), and the judgement of a closed frame (R68 to R70). -/

namespace Sys2Proof.Machine

/-! ### The bytes before the frame check -/

/-- R73, offsets 0 to 4 + 2 × count. -/
def SampleFrame.body (f : SampleFrame) : List Byte :=
  [0x01, byteOf f.group, f.sequence, f.flags, byteOf f.samples.length] ++ f.samples.flatMap halfBytes

/-- R75. -/
def ResponseFrame.body (f : ResponseFrame) : List Byte :=
  [0x03, f.source, f.tag, f.code, f.result, byteOf f.data.length] ++ f.data

/-- R76. -/
def NoticeFrame.body (f : NoticeFrame) : List Byte :=
  [0x04, f.source, f.tag, f.code, byteOf f.data.length] ++ f.data

/-- R74. -/
def RequestFrame.body (f : RequestFrame) : List Byte :=
  [0x02, byteOf f.target, f.tag, f.code, byteOf f.params.length] ++ f.params

/-- R77. -/
def EnumFrame.body (f : EnumFrame) : List Byte := [0x05, byteOf f.next, f.tag]

/-- R77. -/
def LinkFrame.body : LinkFrame → List Byte
  | .hold duration _ => [0x06, duration]
  | .release _ => [0x07]

/-- The frame check a frame carries. -/
def LinkFrame.check : LinkFrame → Half
  | .hold _ check => check
  | .release check => check

/-! ### Whole frames: the fields, then the frame check, high byte first -/

/-- The bytes of a forward frame as sent (R72). -/
def ForwardFrame.bytes : ForwardFrame → List Byte
  | .sample f => f.body ++ halfBytes f.check
  | .response f => f.body ++ halfBytes f.check
  | .notice f => f.body ++ halfBytes f.check

/-- The bytes of a Request or Enumerate frame as sent. -/
def ReverseFrame.bytes : ReverseFrame → List Byte
  | .request f => f.body ++ halfBytes f.check
  | .enumerate f => f.body ++ halfBytes f.check

/-- The bytes of a frame of this part's own local queue as sent. -/
def LocalFrame.bytes : LocalFrame → List Byte
  | .response f => f.body ++ halfBytes f.check
  | .notice f => f.body ++ halfBytes f.check

/-- The bytes of any frame as sent. -/
def Frame.bytes : Frame → List Byte
  | .forward f => f.bytes
  | .reverse f => f.bytes
  | .link f => f.body ++ halfBytes f.check

/-! ### Frames the part builds: the check is computed afresh (R72) -/

/-- A Sample frame with a fresh check. -/
def buildSample (group : Fin 16) (sequence flags : Byte) (samples : List Half) : SampleFrame :=
  let f : SampleFrame := { group := group, sequence := sequence, flags := flags, samples := samples, check := 0 }
  { f with check := frameCheck f.body }

/-- A Response frame with a fresh check. -/
def buildResponse (source tag code result : Byte) (data : List Byte) : ResponseFrame :=
  let f : ResponseFrame := { source := source, tag := tag, code := code, result := result, data := data, check := 0 }
  { f with check := frameCheck f.body }

/-- A Notice frame with a fresh check. -/
def buildNotice (source tag code : Byte) (data : List Byte) : NoticeFrame :=
  let f : NoticeFrame := { source := source, tag := tag, code := code, data := data, check := 0 }
  { f with check := frameCheck f.body }

/-- An Enumerate frame with a fresh check. -/
def buildEnum (next : Fin 32) (tag : Byte) : EnumFrame :=
  let f : EnumFrame := { next := next, tag := tag, check := 0 }
  { f with check := frameCheck f.body }

/-- A Hold frame with a fresh check. -/
def buildHold (duration : Byte) : LinkFrame := .hold duration (frameCheck [0x06, duration])

/-- A Release frame with a fresh check. -/
def buildRelease : LinkFrame := .release (frameCheck [0x07])

/-! ### Step 4 of R68: the fields and the length of each kind (R70); the argument leaves out the frame check -/

/-- Group 0..15, count 1..16, length 7 + 2 × count. -/
def parseSample (check : Half) : List Byte → Option SampleFrame
  | _ :: group :: sequence :: flags :: count :: rest =>
    if h : group.toNat < 16 then
      if 1 ≤ count.toNat ∧ count.toNat ≤ 16 ∧ rest.length = 2 * count.toNat then
        some { group := ⟨group.toNat, h⟩, sequence := sequence, flags := flags, samples := halvesOf rest, check := check }
      else none
    else none
  | _ => none

/-- Data length 0..64, length 8 + data length. -/
def parseResponse (check : Half) : List Byte → Option ResponseFrame
  | _ :: source :: tag :: code :: result :: len :: data =>
    if len.toNat ≤ 64 ∧ data.length = len.toNat then
      some { source := source, tag := tag, code := code, result := result, data := data, check := check }
    else none
  | _ => none

/-- Data length 0..16, length 7 + data length. -/
def parseNotice (check : Half) : List Byte → Option NoticeFrame
  | _ :: source :: tag :: code :: len :: data =>
    if len.toNat ≤ 16 ∧ data.length = len.toNat then
      some { source := source, tag := tag, code := code, data := data, check := check }
    else none
  | _ => none

/-- Target 0..31, parameter length 0..64, length 7 + parameter length. -/
def parseRequest (check : Half) : List Byte → Option RequestFrame
  | _ :: target :: tag :: code :: len :: params =>
    if h : target.toNat < 32 then
      if len.toNat ≤ 64 ∧ params.length = len.toNat then
        some { target := ⟨target.toNat, h⟩, tag := tag, code := code, params := params, check := check }
      else none
    else none
  | _ => none

/-- Next address 1..31, length 5. -/
def parseEnum (check : Half) : List Byte → Option EnumFrame
  | [_, next, tag] =>
    if h : next.toNat < 32 then
      if next.toNat = 0 then none else some { next := ⟨next.toNat, h⟩, tag := tag, check := check }
    else none
  | _ => none

/-- Duration 1..255, length 4. -/
def parseHold (check : Half) : List Byte → Option LinkFrame
  | [_, duration] => if duration = 0 then none else some (.hold duration check)
  | _ => none

/-- Length 3. -/
def parseRelease (check : Half) : List Byte → Option LinkFrame
  | [_] => some (.release check)
  | _ => none

/-- Steps 3 and 4 of R68: the kind must be legal at the port and its structure in order (R70). -/
def parseBody (port : Port) (check : Half) (body : List Byte) : Option Frame :=
  match port, body.head? with
  | .u, some 0x01#8 => (parseSample check body).map fun f => .forward (.sample f)
  | .u, some 0x03#8 => (parseResponse check body).map fun f => .forward (.response f)
  | .u, some 0x04#8 => (parseNotice check body).map fun f => .forward (.notice f)
  | .d, some 0x02#8 => (parseRequest check body).map fun f => .reverse (.request f)
  | .d, some 0x05#8 => (parseEnum check body).map fun f => .reverse (.enumerate f)
  | .d, some 0x06#8 => (parseHold check body).map .link
  | .d, some 0x07#8 => (parseRelease check body).map .link
  | _, _ => none

/-- R68: judgement of a frame closed by END, in its four steps; the first that fails decides. -/
def judge (port : Port) (bytes : List Byte) : Judgement :=
  if bytes.length < 3 then .malformed
  else
    let body := bytes.take (bytes.length - 2)
    match bytes.drop (bytes.length - 2) with
    | [hi, lo] =>
      if frameCheck body ≠ halfOf hi lo then .checkError
      else
        match parseBody port (halfOf hi lo) body with
        | some f => .accepted f
        | none => .malformed
    | _ => .malformed

/-- R67, R68: the outcome if the given symbol ends the open frame now; none when the receiver has no open frame.
Any symbol but END abandons the frame, and an oversize frame is malformed however it ends. -/
def outcome (port : Port) (rx : Receiver) (symbol : EndSymbol) : Option Judgement :=
  match rx, symbol with
  | .idle, _ => none
  | .assembling bytes, .close => some (judge port bytes)
  | .assembling _, _ => some .malformed
  | .oversize, _ => some .malformed

/-- R67: the state of a receiver after a symbol that ends a frame: a START opens a new one. -/
def afterEnd : EndSymbol → Receiver
  | .start => .assembling []
  | _ => .idle

end Sys2Proof.Machine
end

