-- ==== Sys2Proof/Machine/Curves.lean ====
section
/-! DEFINITION. Curves: order (R12) and evaluation (R33 to R36). -/

namespace Sys2Proof.Machine

/-- R9, R11: the points of a defined curve, in pool order from its start. -/
def curvePoints (b : Bank) (c : CurveDef) : List Point := (b.points.toList.drop c.start).take c.count

/-- R12: x strictly increases from each point to the next. -/
def ordered : List Point → Bool
  | p :: q :: rest => decide (p.x.toInt < q.x.toInt) && ordered (q :: rest)
  | _ => true

/-- What an evaluation gives: the value, and whether RANGE and SAT arise (R35, R36). -/
structure EvalResult where
  value : Half
  range : Bool
  sat   : Bool
  deriving DecidableEq, Repr

/-- R34: the quotient rounded to the nearest integer, a tie away from zero; the divisor is positive. -/
def roundQuotient (n d : Int) : Int :=
  if 0 ≤ n then (2 * n + d) / (2 * d) else -((2 * (-n) + d) / (2 * d))

/-- R34: the line through p and q at x, rounded; all differences and the product are exact. -/
def lineAt (p q : Point) (x : Int) : Int :=
  p.y.toInt + roundQuotient ((q.y.toInt - p.y.toInt) * (x - p.x.toInt)) (q.x.toInt - p.x.toInt)

/-- R33: the lowest segment that holds x, among those of p, q and the points after q; x is not below p. -/
def segment (p q : Point) (rest : List Point) (x : Int) : Point × Point :=
  match rest with
  | [] => (p, q)
  | r :: more => if x ≤ q.x.toInt then (p, q) else segment q r more x

/-- The last segment of p, q and the points after q. -/
def lastSegment (p q : Point) : List Point → Point × Point
  | [] => (p, q)
  | r :: more => lastSegment q r more

/-- R35: a sum outside −32768..32767 is clipped, and SAT says so. -/
def saturate (v : Int) : Half × Bool :=
  if v < -32768 then (0x8000#16, true)
  else if 32767 < v then (0x7FFF#16, true)
  else (BitVec.ofInt 16 v, false)

/-- R36: the result for a value out of range; `edge` is the end point on that side, `p` and `q` the segment extended. -/
def outOfRange (policy : EndPolicy) (edge p q : Point) (x : Int) : EvalResult :=
  match policy with
  | .clamp => { value := edge.y, range := true, sat := false }
  | .mark => { value := 0x8000#16, range := true, sat := false }
  | .extend => { value := (saturate (lineAt p q x)).1, range := true, sat := (saturate (lineAt p q x)).2 }

/-- R33 to R36: a curve of the given points evaluated at the raw value x.
A defined curve has at least two points (R9); the last arm is met by no defined curve. -/
def evalCurve (points : List Point) (policy : EndPolicy) (raw : Half) : EvalResult :=
  match points with
  | p :: q :: rest =>
    let last := lastSegment p q rest
    if raw.toInt < p.x.toInt then outOfRange policy p p q raw.toInt
    else if last.2.x.toInt < raw.toInt then outOfRange policy last.2 last.1 last.2 raw.toInt
    else
      let seg := segment p q rest raw.toInt
      { value := BitVec.ofInt 16 (lineAt seg.1 seg.2 raw.toInt), range := false, sat := false }
  | _ => { value := 0x8000#16, range := false, sat := false }

end Sys2Proof.Machine
end

