-- ==== Sys2Proof/Machine/Validation.lean ====
section
/-! DEFINITION. The test of a bank (R15 to R20). -/

namespace Sys2Proof.Machine

/-- The mode a bank gives a group. -/
def modeOf (b : Bank) (g : Fin 16) : GroupMode := (b.groups[g]).mode

/-- The in-use slots of the map with their entries, in ascending slot number. -/
def usedSlots (b : Bank) : List (Fin 64 × MapEntry) :=
  (List.finRange 64).filterMap fun s => (b.slots[s]).map fun e => (s, e)

/-- The in-use slots whose input group is g. -/
def groupSlots (b : Bank) (g : Fin 16) : List (Fin 64 × MapEntry) :=
  (usedSlots b).filter fun se => se.2.group == g

/-- R16: the check of one curve. -/
def curveFault (b : Bank) (c : Fin 32) : Option TestFault :=
  match b.curves[c] with
  | some d => if ordered (curvePoints b d) then none else some { kind := .curveOrder, index := ⟨c.val, by omega⟩ }
  | none => none

/-- R17: the checks of one slot, in their order. -/
def slotFault (b : Bank) (s : Fin 64) : Option TestFault :=
  match b.slots[s] with
  | none => none
  | some e =>
    let below := (usedSlots b).filter fun te => te.1 < s
    if below.any (fun te => te.2.group == e.group && te.2.pos == e.pos) then some { kind := .dupKey, index := s }
    else if modeOf b e.group == .process then
      if e.action == .correct && (b.curves[e.curve]).isNone then some { kind := .curveMissing, index := s }
      else if below.any (fun te => te.2.group == e.group && te.2.out == e.out) then some { kind := .outposDup, index := s }
      else none
    else none

/-- R18: the number a group emits under; a BLOCK group emits nothing. -/
def emittedNumber (b : Bank) (g : Fin 16) : Option (Fin 16) :=
  match modeOf b g with
  | .bypass => some g
  | .process => some (b.groups[g]).out
  | .block => none

/-- R18: whether the output positions of the k slots are exactly 0..k−1. -/
def positionsFill (slots : List (Fin 64 × MapEntry)) : Bool :=
  slots.all (fun se => decide (se.2.out.val < slots.length)) &&
    (List.range slots.length).all fun q => slots.any fun se => se.2.out.val == q

/-- R18: the checks of one group, in their order. -/
def groupFault (b : Bank) (g : Fin 16) : Option TestFault :=
  let index : Fin 64 := ⟨g.val, by omega⟩
  if modeOf b g == .process && (groupSlots b g).isEmpty then some { kind := .groupEmpty, index := index }
  else if modeOf b g == .process && !(positionsFill (groupSlots b g)) then some { kind := .outposHole, index := index }
  else if (emittedNumber b g).isSome &&
      (List.finRange 16).any (fun h => decide (h < g) && emittedNumber b h == emittedNumber b g) then
    some { kind := .groupClash, index := index }
  else none

/-- R15: the curve pass, the map pass and the group pass; the first fault found, or none for a valid bank. -/
def testBank (b : Bank) : Option TestFault :=
  ((List.finRange 32).findSome? (curveFault b)).or
    (((List.finRange 64).findSome? (slotFault b)).or
      ((List.finRange 16).findSome? (groupFault b)))

/-- R5, R20: the emit count a successful test records for a group. A valid group has at most 16 slots (R18). -/
def emitCount (b : Bank) (g : Fin 16) : Fin 17 :=
  match modeOf b g with
  | .process => Fin.ofNat 17 (groupSlots b g).length
  | _ => 0

/-- R20: all 16 emit counts recorded together; nothing else changes. -/
def recordEmits (b : Bank) : Bank :=
  { b with groups := Vector.ofFn fun g => { b.groups[g] with emit := emitCount b g } }

end Sys2Proof.Machine
end

