-- ==== Sys2Proof/Machine/Correction.lean ====
section
/-! DEFINITION. What the correction stage computes for one bound frame: the sequence check (R28), the slot values (R31, R32), the output frame (R38) and the counters (R41, R42). -/

namespace Sys2Proof.Machine

/-- R28: how the tracker of a group judges a sequence number. -/
inductive SequenceJudgement where
  | synchronising
  | inOrder
  | duplicate
  | gap (missing : Nat)
  deriving DecidableEq, Repr

/-- R28 to R30: the distance (s − L) mod 256 decides; a gap of distance d is d − 1 missing frames. -/
def judgeSequence (t : Tracker) (sequence : Byte) : SequenceJudgement :=
  match t with
  | .unsynced => .synchronising
  | .synced last =>
    let d := (sequence - last).toNat
    if d = 0 then .duplicate else if d = 1 then .inOrder else .gap (d - 1)

/-- What one slot produces for a frame: its value and the occasions for RANGE, SAT and SHORT. -/
structure SlotResult where
  value : Half
  range : Bool
  sat   : Bool
  short : Bool
  deriving DecidableEq, Repr

/-- R31 to R36: a slot takes its raw sample from its input position; an absent source gives −32768 and SHORT.
A bank in service defines every curve named under CORRECT (R17); for an undefined one the points are taken as none. -/
def slotResult (b : Bank) (f : SampleFrame) (e : MapEntry) : SlotResult :=
  match f.samples[e.pos.val]? with
  | none => { value := 0x8000#16, range := false, sat := false, short := true }
  | some raw =>
    match e.action with
    | .pass => { value := raw, range := false, sat := false, short := false }
    | .correct =>
      let r := match b.curves[e.curve] with
        | some c => evalCurve (curvePoints b c) c.policy raw
        | none => evalCurve [] .clamp raw
      { value := r.value, range := r.range, sat := r.sat, short := false }

/-- R38: the sample at output position q, from the slot whose output position is q.
A bank in service has one for every q below the emit count (R18); −32768 stands where there is none. -/
def outputSample (b : Bank) (f : SampleFrame) (q : Nat) : Half :=
  match (groupSlots b f.group).find? fun se => se.2.out.val == q with
  | some se => (slotResult b f se.2).value
  | none => 0x8000#16

/-- R38: the samples of the output frame, as many as the emit count. -/
def outputSamples (b : Bank) (f : SampleFrame) : List Half :=
  (List.range (b.groups[f.group]).emit.val).map (outputSample b f)

/-- R37: whether an occasion arose in at least one slot of the frame's group. -/
def anySlot (b : Bank) (f : SampleFrame) (occasion : SlotResult → Bool) : Bool :=
  (groupSlots b f.group).any fun se => occasion (slotResult b f se.2)

/-- R38, R39: the output frame, with a fresh check. -/
def correctedFrame (b : Bank) (f : SampleFrame) (gap : Bool) : SampleFrame :=
  buildSample (b.groups[f.group]).out f.sequence
    (outputFlags f.flags gap (anySlot b f (·.range)) (anySlot b f (·.sat)) (anySlot b f (·.short)))
    (outputSamples b f)

/-- R35, R36: the counters of one slot after the frame; each grows by at most 1. -/
def countedSlot (b : Bank) (f : SampleFrame) (s : Fin 64) (c : SlotCounters) : SlotCounters :=
  match b.slots[s] with
  | some e =>
    if e.group = f.group then
      { sat := if (slotResult b f e).sat then satAdd c.sat 1 else c.sat,
        range := if (slotResult b f e).range then satAdd c.range 1 else c.range }
    else c
  | none => c

/-- R41: all slot counters after the frame. -/
def countedSlots (b : Bank) (f : SampleFrame) (cs : Vector SlotCounters 64) : Vector SlotCounters 64 :=
  Vector.ofFn fun s => countedSlot b f s cs[s]

end Sys2Proof.Machine
end

