-- ==== Sys2Proof/Machine/Notices.lean ====
section
/-! DEFINITION. The notice unit (chapter 8): raising, gathering, forming and placing notices, and the enable mask. -/

namespace Sys2Proof.Machine

/-! ### Kinds, codes and data -/

/-- The place of a completion kind in ascending code (R158). -/
def CompletionKind.index : CompletionKind → Fin 7
  | .copyDone => 0
  | .validateDone => 1
  | .commitDone => 2
  | .loadDone => 3
  | .saveDone => 4
  | .eraseDone => 5
  | .directoryDone => 6

/-- R76: the notice codes of the completion kinds. -/
def CompletionKind.code : CompletionKind → Byte
  | .copyDone => 0x10
  | .validateDone => 0x11
  | .commitDone => 0x12
  | .loadDone => 0x20
  | .saveDone => 0x21
  | .eraseDone => 0x22
  | .directoryDone => 0x23

/-- R76: the notice codes of the unsolicited kinds. -/
def UnsolicitedKind.code : UnsolicitedKind → Byte
  | .bootDone => 0x01
  | .overrun => 0x02
  | .sequence => 0x03

/-- R80: the bit of the enable mask for an unsolicited kind. -/
def UnsolicitedKind.bit : UnsolicitedKind → Nat
  | .bootDone => 0
  | .overrun => 1
  | .sequence => 2

/-- R150: the kind of a completion. -/
def Completion.kind : Completion → CompletionKind
  | .copyDone => .copyDone
  | .validateDone _ => .validateDone
  | .commitSwapped _ | .commitInvalid _ | .commitExpired | .commitCancelled => .commitDone
  | .loadDone _ _ => .loadDone
  | .saveDone _ _ => .saveDone
  | .eraseDone _ _ => .eraseDone
  | .directoryDone _ _ => .directoryDone

/-- R84, R86: fault kind and index, both 00h when the test passed. -/
def faultBytes : Option TestFault → List Byte
  | some f => [f.kind.code, byteOf f.index]
  | none => [0x00, 0x00]

/-- R86: boot slot, fallback and protection mask as bytes. -/
def settingBytes (d : DirSetting) : List Byte := [bootByte d.boot, boolByte d.fallback, d.mask.setWidth 8]

/-- R86: the data of a completion notice. -/
def Completion.data : Completion → List Byte
  | .copyDone => [0x00]
  | .validateDone fault => boolByte fault.isSome :: faultBytes fault
  | .commitSwapped bank => [0x00, bank.code, 0x00, 0x00]
  | .commitInvalid fault => [0x01, 0x00] ++ faultBytes (some fault)
  | .commitExpired => [0x02, 0x00, 0x00, 0x00]
  | .commitCancelled => [0x03, 0x00, 0x00, 0x00]
  | .loadDone result slot => [result.code, byteOf slot]
  | .saveDone (some generation) slot => [Result.ok.code, byteOf slot] ++ wordBytes generation
  | .saveDone none slot => [Result.fault.code, byteOf slot] ++ wordBytes 0
  | .eraseDone result slot => [result.code, byteOf slot]
  | .directoryDone result setting => result.code :: settingBytes setting

/-- R86: the data of BOOT_DONE. -/
def BootOutcome.data : BootOutcome → List Byte
  | .loaded slot generation => [0x00, byteOf slot] ++ wordBytes generation
  | .empty => [0x01, 0xFF] ++ wordBytes 0
  | .kept => [0x02, 0xFF] ++ wordBytes 0

/-! ### The pending set -/

/-- A notice kind of either type (R150). -/
inductive NoticeKind where
  | completion (k : CompletionKind)
  | unsolicited (k : UnsolicitedKind)
  deriving DecidableEq, Repr

/-- R158: the order in which pending notices take a place. -/
def noticeOrder : List NoticeKind :=
  [.completion .copyDone, .completion .validateDone, .completion .commitDone, .completion .loadDone,
   .completion .saveDone, .completion .eraseDone, .completion .directoryDone,
   .unsolicited .bootDone, .unsolicited .overrun, .unsolicited .sequence]

/-- R152: the outstanding state of an unsolicited kind. -/
def NoticeUnit.outstanding (n : NoticeUnit) : UnsolicitedKind → Outstanding
  | .bootDone => n.bootDone
  | .overrun => n.overrun
  | .sequence => n.sequence

/-- R152: the unit with the outstanding state of one kind replaced. -/
def NoticeUnit.setOutstanding (n : NoticeUnit) (k : UnsolicitedKind) (o : Outstanding) : NoticeUnit :=
  match k with
  | .bootDone => { n with bootDone := o }
  | .overrun => { n with overrun := o }
  | .sequence => { n with sequence := o }

/-- R153 to R155: the record of a kind cleared. -/
def NoticeUnit.clearRecord (n : NoticeUnit) : UnsolicitedKind → NoticeUnit
  | .bootDone => { n with bootOutcome := none }
  | .overrun => { n with overrunSet := false }
  | .sequence => { n with accumulator := 0 }

/-- R156: whether the mask enables a kind. -/
def NoticeUnit.enabled (n : NoticeUnit) (k : UnsolicitedKind) : Bool := n.mask.getLsbD k.bit

/-- Whether a kind is in the pending set. -/
def NoticeUnit.isPending (n : NoticeUnit) : NoticeKind → Bool
  | .completion k => (n.completions[k.index]).pending.isSome
  | .unsolicited k => n.outstanding k == .pending

/-- R158: the first pending notice in the order of R158. -/
def NoticeUnit.firstPending (n : NoticeUnit) : Option NoticeKind := noticeOrder.find? n.isPending

/-! ### Forming -/

/-- The chain address as a byte of a frame or record. -/
def addressByte (s : State) : Byte := byteOf s.address

/-- A place in the local queue is free (R93). -/
def localRoom (s : State) : Bool := decide (s.localQ.length < Config.localPlaces)

/-- A frame joins the tail of the local queue (R93). -/
def pushLocal (f : LocalFrame) (s : State) : State := { s with localQ := s.localQ ++ [f] }

/-- R86: the data an unsolicited notice is formed with. -/
def unsolicitedData (s : State) : UnsolicitedKind → List Byte
  | .bootDone => (s.notices.bootOutcome.getD .empty).data
  | .overrun => wordBytes s.counters.uOverrun
  | .sequence => halfBytes s.notices.accumulator

/-- R157: a pending completion notice is formed and enters the local queue; its follower becomes pending (R151). -/
def formCompletion (k : CompletionKind) (s : State) : State :=
  let places := s.notices.completions[k.index]
  match places.pending with
  | none => s
  | some n =>
    pushLocal (.notice (buildNotice (addressByte s) n.tag k.code n.what.data))
      { s with notices := { s.notices with
          completions := s.notices.completions.set k.index { pending := places.follower, follower := none } } }

/-- R152 to R155, R157: a pending unsolicited notice is formed with tag 00h from its record as it stands, which is then cleared. -/
def formUnsolicited (k : UnsolicitedKind) (s : State) : State :=
  pushLocal (.notice (buildNotice (addressByte s) 0 k.code (unsolicitedData s k)))
    { s with notices := (s.notices.clearRecord k).setOutstanding k .queued }

/-- A notice of either type is formed. -/
def formNotice (k : NoticeKind) (s : State) : State :=
  match k with
  | .completion k => formCompletion k s
  | .unsolicited k => formUnsolicited k s

/-- R158: a free place goes to the first pending notice; without a place or a pending notice nothing happens. -/
def offerNotice (s : State) : State :=
  if localRoom s then
    match s.notices.firstPending with
    | some k => formNotice k s
    | none => s
  else s

/-! ### Raising -/

/-- R151: the owner hands over a completion. With none of its kind pending it becomes pending, and takes a free place (R158);
otherwise it takes the follower place of its kind. -/
def raiseCompletion (tag : Byte) (what : Completion) (s : State) : State :=
  let i := what.kind.index
  let places := s.notices.completions[i]
  let n : CompletionNotice := { tag := tag, what := what }
  match places.pending with
  | none => offerNotice { s with notices := { s.notices with
      completions := s.notices.completions.set i { places with pending := some n } } }
  | some _ => { s with notices := { s.notices with
      completions := s.notices.completions.set i { places with follower := some n } } }

/-- R153: an overrun drop is reported. -/
def reportOverrun (s : State) : State :=
  if s.notices.enabled .overrun then
    match s.notices.overrun with
    | .idle => offerNotice { s with notices := { s.notices with overrun := .pending } }
    | .pending => s
    | .queued => { s with notices := { s.notices with overrunSet := true } }
  else s

/-- R154: a group with a gap or a duplicate is reported. -/
def reportSequence (g : Fin 16) (s : State) : State :=
  if s.notices.enabled .sequence then
    let n := { s.notices with accumulator := s.notices.accumulator ||| (1#16 <<< g.val) }
    match n.sequence with
    | .idle => offerNotice { s with notices := { n with sequence := .pending } }
    | .pending | .queued => { s with notices := n }
  else s

/-- R155: a boot outcome is reported. -/
def reportBoot (o : BootOutcome) (s : State) : State :=
  if s.notices.enabled .bootDone then
    offerNotice { s with notices := { s.notices with bootDone := .pending, bootOutcome := some o } }
  else s

/-! ### Starts of queued notices, and the mask -/

/-- The unsolicited kind of a notice code (R76). -/
def unsolicitedOf (code : Byte) : Option UnsolicitedKind :=
  if code = 0x01 then some .bootDone
  else if code = 0x02 then some .overrun
  else if code = 0x03 then some .sequence
  else none

/-- R152: whether an event has been recorded for a kind since its frame was formed. -/
def NoticeUnit.gathered (n : NoticeUnit) : UnsolicitedKind → Bool
  | .bootDone => false
  | .overrun => n.overrunSet
  | .sequence => n.accumulator != 0

/-- R152 to R154: the D transmitter starts a queued unsolicited notice. The kind becomes PENDING when it is enabled and events
were gathered, and the indication of OVERRUN is then CLEAR; else it becomes IDLE. -/
def NoticeUnit.started (n : NoticeUnit) (k : UnsolicitedKind) : NoticeUnit :=
  if n.enabled k && n.gathered k then { n.setOutstanding k .pending with overrunSet := if k = .overrun then false else n.overrunSet }
  else n.setOutstanding k .idle

/-- R152: the start of a local frame is reported to the notice unit. -/
def NoticeUnit.frameStarted (n : NoticeUnit) : LocalFrame → NoticeUnit
  | .response _ => n
  | .notice f =>
    match unsolicitedOf f.code with
    | some k => if n.outstanding k = .queued then n.started k else n
    | none => n

/-- R156: a kind that the new mask disables leaves the pending set, and its record is cleared; a QUEUED one stays QUEUED. -/
def NoticeUnit.disable (n : NoticeUnit) (k : UnsolicitedKind) : NoticeUnit :=
  match n.outstanding k with
  | .idle => n
  | .pending => (n.clearRecord k).setOutstanding k .idle
  | .queued => n.clearRecord k

/-- R156: one kind under a change of the mask; only a kind that was enabled and is so no longer changes. -/
def NoticeUnit.remask (n : NoticeUnit) (new : BitVec 3) (k : UnsolicitedKind) : NoticeUnit :=
  if n.enabled k && !(new.getLsbD k.bit) then n.disable k else n

/-- R139, R156: the mask is replaced. -/
def NoticeUnit.setMask (n : NoticeUnit) (new : BitVec 3) : NoticeUnit :=
  { ((n.remask new .bootDone).remask new .overrun).remask new .sequence with mask := new }

end Sys2Proof.Machine
end

