-- ==== Sys2Proof/Machine/Ops.lean ====
section
/-! DEFINITION. The operations that commands share: banks and their swap, the forward and reverse queues, flow control,
the engine's answers, the store's interruption, the boot, the restart and the hard reset. -/

namespace Sys2Proof.Machine

/-- R185: while the part is held in hard reset, no event is taken. -/
def unlessHeld (s : State) (after : State) : Host.Outcome State Fault Refusal :=
  .next (if s.held then s else after)

/-! ### Banks (R45) -/

/-- The other bank of the pair. -/
def BankName.other : BankName → BankName
  | .a => .b
  | .b => .a

/-- The bank of a name. -/
def bankNamed (s : State) : BankName → Bank
  | .a => s.bankA
  | .b => s.bankB

/-- The bank that holds the ACTIVE role. -/
def activeBank (s : State) : Bank := bankNamed s s.active

/-- The bank that holds the SHADOW role. -/
def shadowBank (s : State) : Bank := bankNamed s s.active.other

/-- R1, R48: the SHADOW bank takes new content; the ACTIVE bank is left as it was. -/
def setShadowBank (b : Bank) (s : State) : State :=
  match s.active with
  | .a => { s with bankB := b }
  | .b => { s with bankA := b }

/-- R82, R83: the bank that holds the role a role byte names, 00h ACTIVE or 01h SHADOW. -/
def roleBank (s : State) (role : Byte) : Bank := if role = 0x01 then shadowBank s else activeBank s

/-! ### Flow control (R100 to R104) -/

/-- R100: the refresh period of a setting, in units of 16 µs. -/
def refreshPeriod (setting : Byte) : Nat := if setting = 1 then 1 else setting.toNat / 2

/-- R101, R102: a Hold is placed in the link-control slot with the setting in force, and the refresh timer (re)starts. -/
def placeHold (f : FlowControl) : FlowControl :=
  { f with upstream := .asserted, refresh := some (refreshPeriod f.setting), slot := some (buildHold f.setting) }

/-- R103: a Release is placed in the slot, the hold becomes QUIET and the refresh timer stops. -/
def placeRelease (f : FlowControl) : FlowControl :=
  { f with upstream := .quiet, refresh := none, slot := some buildRelease }

/-- R101: occupancy has become `n` by the entry of a frame. -/
def flowAfterEntry (f : FlowControl) (n : Nat) : FlowControl :=
  if n = Config.holdAt ∧ f.upstream = .quiet then placeHold f else f

/-- R103: occupancy has become `n` by the dispatcher's removal of a frame. -/
def flowAfterRemoval (f : FlowControl) (n : Nat) : FlowControl :=
  if n = Config.releaseAt ∧ f.upstream = .asserted then placeRelease f else f

/-! ### Forward queues (R87 to R91) -/

/-- R87, R88: an accepted forward frame is offered to the ingress queue. -/
def offerIngress (f : ForwardFrame) (s : State) : State :=
  if s.ingress.length < Config.ingressPlaces then
    { s with ingress := s.ingress ++ [f],
             counters := { s.counters with uAccepted := s.counters.uAccepted + 1 },
             flow := flowAfterEntry s.flow (s.ingress.length + 1) }
  else reportOverrun { s with counters := { s.counters with uOverrun := s.counters.uOverrun + 1 } }

/-- R89: the dispatcher takes the head of the ingress queue; `rest` is what stays in it. -/
def removeIngressHead (rest : List ForwardFrame) (s : State) : State :=
  { s with ingress := rest, flow := flowAfterRemoval s.flow rest.length }

/-- A place in the forward egress queue is free (R91). -/
def egressRoom (s : State) : Bool := decide (s.egress.length < Config.egressPlaces)

/-- R24, R90: a frame that leaves unchanged joins the forward egress queue, or is held WAITING at intake. -/
def passUnchanged (f : ForwardFrame) (s : State) : State :=
  if egressRoom s then { s with egress := s.egress ++ [f] } else { s with intake := .waiting f }

/-! ### Start-up outcomes (R191, R192) -/

/-- R191: the boot ends at its swap; the outcome LOADED names the candidate. -/
def endBootLoaded (s : State) : State :=
  let ended := { s with mode := .running, boot := none }
  match s.boot with
  | some { candidate := some (slot, generation), .. } => reportBoot (.loaded slot generation) ended
  | _ => ended

/-- R192: the boot ends without a candidate; the shadow takes the empty bank. -/
def endBootEmpty (s : State) : State :=
  reportBoot .empty { setShadowBank Bank.empty s with shadow := .editable, mode := .running, boot := none }

/-! ### The swap (R58 to R60) -/

/-- R27, R60: a tracker at a swap becomes UNSYNCED when its group is PROCESS in exactly one of the two banks. -/
def swapTrackers (old new : Bank) (ts : Vector Tracker 16) : Vector Tracker 16 :=
  Vector.ofFn fun g => if (modeOf old g == .process) == (modeOf new g == .process) then ts[g] else .unsynced

/-- R60: the roles exchange, the new shadow is EDITABLE, the commit record is dropped with its timer, the slot counters are 0,
the trackers change, and the outcome is reported. -/
def swap (s : State) : State :=
  let swapped := { s with
    active := s.active.other, shadow := .editable, commit := none,
    slotCounts := Vector.replicate 64 { sat := 0, range := 0 },
    trackers := swapTrackers (activeBank s) (shadowBank s) s.trackers }
  match s.commit with
  | some { origin := .request, tag := some tag, .. } => raiseCompletion tag (.commitSwapped s.active.other) swapped
  | some { origin := .boot, .. } => endBootLoaded swapped
  | _ => swapped

/-- R40, R58: the correction stage reports that it is between frames; a commit ARMED in mode NOW is swapped. -/
def betweenFrames (s : State) : State :=
  match s.shadow, s.commit with
  | .armed, some { mode := .now, .. } => swap s
  | _, _ => s

/-- R22, R59: decision 2 at intake; a commit ARMED in mode AT whose target the frame carries is swapped. -/
def swapIfTarget (f : SampleFrame) (s : State) : State :=
  match s.shadow, s.commit with
  | .armed, some { mode := .atFrame group sequence, .. } =>
    if f.group = group ∧ f.sequence = sequence then swap s else s
  | _, _ => s

/-- R56, R57: a commit ends without a swap: the shadow is EDITABLE, the record is dropped with its timer, and a commit of
origin REQUEST raises the given COMMIT_DONE. -/
def endCommit (what : Completion) (s : State) : State :=
  let ended := { s with shadow := .editable, commit := none }
  match s.commit with
  | some { origin := .request, tag := some tag, .. } => raiseCompletion tag what ended
  | _ => ended

/-! ### The boot procedure (R188 to R190) -/

/-- The info of a VALID slot not in the tried set. -/
def candidateInfo (store : StoreController) (tried : List (Fin 4)) (slot : Fin 4) : Option SlotInfo :=
  if tried.contains slot then none
  else match store.table[slot] with
    | .valid info => some info
    | _ => none

/-- R188: of two candidates, the one with the higher generation; the earlier one when they are equal (log 8). -/
def betterCandidate (best : Option (Fin 4 × Word)) (slot : Fin 4) (info : Option SlotInfo) : Option (Fin 4 × Word) :=
  match best, info with
  | _, none => best
  | none, some i => some (slot, i.generation)
  | some (b, g), some i => if g.toNat < i.generation.toNat then some (slot, i.generation) else some (b, g)

/-- R188: the untried VALID slot with the highest generation. -/
def newestCandidate (store : StoreController) (tried : List (Fin 4)) : Option (Fin 4 × Word) :=
  (List.finRange 4).foldl (fun best slot => betterCandidate best slot (candidateInfo store tried slot)) none

/-- R188: the boot slot when it can be a candidate. -/
def bootSlotCandidate (store : StoreController) (tried : List (Fin 4)) : Option (Fin 4 × Word) :=
  match store.view.setting.boot with
  | none => none
  | some slot => (candidateInfo store tried slot).map fun i => (slot, i.generation)

/-- R188: the choice of a candidate, boot slot first, then by fallback. -/
def candidate (store : StoreController) (tried : List (Fin 4)) : Option (Fin 4 × Word) :=
  (bootSlotCandidate store tried).or
    (if store.view.setting.fallback then newestCandidate store tried else none)

/-- R188, R189, R192: the start-up logic makes its next choice and starts the load of the candidate, or ends the boot. -/
def chooseCandidate (s : State) : State :=
  match s.boot with
  | none => s
  | some record =>
    match candidate s.store record.tried with
    | some (slot, generation) =>
      { s with
        boot := some { phase := .load, candidate := some (slot, generation), tried := record.tried ++ [slot] },
        shadow := .loading,
        store := { s.store with op := some (.load none slot) } }
    | none => endBootEmpty s

/-- R190: the test of a loaded candidate starts, with a commit record of origin BOOT, mode NOW and timeout 0. -/
def startBootTest (s : State) : State :=
  { s with
    shadow := .validating .boot none,
    commit := some { origin := .boot, tag := none, mode := .now, timeout := 0, timer := false },
    boot := s.boot.map fun r => { r with phase := .test } }

/-! ### The store (R160 to R164, R182, R183) -/

/-- R160, R182: how a scan classes a header. The last two cases, a VALID marker with another length and a marker that reads as none of the
three, arise from no command of the model (DESIGN CHOICE, log 16); they are classed as R160 says. -/
def classify : Header → SlotEntry
  | .erased => .empty
  | .incomplete => .incomplete
  | .valid info _ => if info.length = 1584 then .valid info else .incomplete
  | .unreadable => .incomplete

/-- R161: the CRC-32 of R79 over the other fields of a copy; the bytes of those fields are the model's choice (log 9). -/
def dirCheck (c : DirCopy) : Word := bodyCheck (halfBytes c.sequence ++ [c.boot, boolByte c.fallback, c.mask])

/-- R161: a copy is valid when its check matches and its boot slot and mask hold values in their ranges. -/
def copySetting (c : DirCopy) : Option DirSetting :=
  if c.check = dirCheck c ∧ c.mask.toNat < 16 then
    (bootSlotOf c.boot).map fun boot => { boot := boot, fallback := c.fallback, mask := c.mask.setWidth 4 }
  else none

/-- R161: copy a is newer than copy b when the difference of their sequences lies in 1..32767. -/
def newer (a b : Half) : Bool := decide (1 ≤ (a - b).toNat ∧ (a - b).toNat ≤ 32767)

/-- R161: the directory in force. -/
def directoryInForce (nv : NvStore) : DirView :=
  let view0 (d : DirSetting) : DirView := { setting := d, inForce := some .copy0, sequence := nv.copy0.sequence }
  let view1 (d : DirSetting) : DirView := { setting := d, inForce := some .copy1, sequence := nv.copy1.sequence }
  match copySetting nv.copy0, copySetting nv.copy1 with
  | some d0, none => view0 d0
  | none, some d1 => view1 d1
  | some d0, some d1 => if newer nv.copy1.sequence nv.copy0.sequence then view1 d1 else view0 d0
  | none, none => DirView.none

/-- The content of the store with one slot replaced. -/
def NvStore.setSlot (nv : NvStore) (slot : Fin 4) (v : NvSlot) : NvStore := { nv with slots := nv.slots.set slot v }

/-- The content of the store with one directory copy replaced. -/
def NvStore.setCopy (nv : NvStore) (target : CopyName) (c : DirCopy) : NvStore :=
  match target with
  | .copy0 => { nv with copy0 := c }
  | .copy1 => { nv with copy1 := c }

/-- A directory copy as a finished write leaves it (R180), with the encodings of R85 and its check. -/
def writtenCopy (d : DirSetting) (sequence : Half) : DirCopy :=
  let c : DirCopy :=
    { sequence := sequence, boot := bootByte d.boot, fallback := d.fallback, mask := d.mask.setWidth 8, check := 0 }
  { c with check := dirCheck c }

/-- R183: a copy whose write did not finish; its fields are as given, and it fails its check. -/
def unfinishedCopy (c : DirCopy) : DirCopy := { c with check := if c.check = dirCheck c then ~~~ c.check else c.check }

/-- R183: what an interrupted operation leaves in the store; what is open there is free, indexed by `n`. -/
def interruptedNv (op : Option StoreOp) (n : Nat) (nv : NvStore) : NvStore :=
  match op with
  | some (.save _ slot _ _) => nv.setSlot slot { header := .incomplete, body := Config.bodyLeft n }
  | some (.erase _ slot) =>
    nv.setSlot slot { header := if Config.eraseLeftErased n then .erased else .incomplete, body := Config.bodyLeft n }
  | some (.dirWrite _ _ target _) =>
    nv.setCopy target (unfinishedCopy
      { sequence := Config.dirSequenceLeft n, boot := Config.dirBootLeft n, fallback := Config.dirFallbackLeft n,
        mask := Config.dirMaskLeft n, check := Config.dirCheckLeft n })
  | some .scan | some (.load _ _) | none => nv

/-- R183: a store operation in progress ends at once, without a notice; the buffer holds no image. -/
def interruptStore (s : State) : State :=
  { s with
    nv := interruptedNv s.store.op s.freeCount s.nv,
    freeCount := s.freeCount + 1,
    store := { s.store with op := none, buffer := none } }

/-! ### Restart and hard reset (R64, R195, R185, R186) -/

/-- R2, R64: the bank controller ends its work; a shadow that was COPYING or LOADING holds the empty bank. -/
def endBankWork (s : State) : State :=
  let cleared := match s.shadow with
    | .copying _ | .loading => setShadowBank Bank.empty s
    | _ => s
  { cleared with shadow := .editable, commit := none }

/-- R72: what a lane carries once a restart has begun: an INVALID symbol stands in place of the rest of a frame, so a transmitter whose
frame has had its END, or that is READY, sends IDLE. Which of the two a SENDING transmitter is in is free (log 13). -/
def laneAfterRestart {α : Type} (send : Send α) (endSent : Bool) : Lane :=
  match send with
  | .ready => .idle
  | .sending _ => if endSent then .idle else .cut

/-- R195: the restart begins, as one event, in the form the engine kept: every block takes its value after restart (10.4.1) and a scan starts. -/
def beginRestart (form : RestartForm) (s : State) : State :=
  let ended := interruptStore (endBankWork s)
  { ended with
    mode := match form with
      | .keep => .running
      | .reload => .booting
    boot := match form with
      | .keep => none
      | .reload => some { phase := .scan, candidate := none, tried := [] }
    uRx := .idle
    dRx := .idle
    ingress := []
    intake := .free
    stage := .idle
    trackers := Vector.replicate 16 .unsynced
    slotCounts := Vector.replicate 64 { sat := 0, range := 0 }
    groupCounts := Vector.replicate 16 { gap := 0, dup := 0 }
    egress := []
    localQ := []
    dTx := { send := .ready, hold := .free, lastServed := .ofLocal, lane := laneAfterRestart s.dTx.send (Config.endSent s.freeCount) }
    uTx := { send := .ready, lane := laneAfterRestart s.uTx.send (Config.endSent s.freeCount) }
    flow := { upstream := .quiet, refresh := none, setting := s.flow.setting, slot := none }
    counters := Counters.zero
    requestQ := []
    reverseQ := []
    engine := .idle
    notices := NoticeUnit.clear s.notices.mask
    store := { ended.store with op := some .scan } }

/-- R185: the hard reset ends every piece of work at once; the lanes fall silent and every timer is stopped.
The other volatile items take their values at the release (R186). -/
def beginHardReset (s : State) : State :=
  let ended := interruptStore (endBankWork s)
  { ended with
    held := true
    boot := none
    uRx := .idle
    dRx := .idle
    intake := .free
    stage := .idle
    dTx := { s.dTx with send := .ready, hold := .free, lane := .silent }
    uTx := { send := .ready, lane := .silent }
    flow := { s.flow with upstream := .quiet, refresh := none }
    engine := .idle
    notices := NoticeUnit.clear s.notices.mask }

/-- R186: at the release every volatile item takes its value after hard reset; the store's content is kept. -/
def releaseHardReset (pins : Pins) (s : State) : State :=
  { State.reset with pending := s.pending, pins := pins, nv := s.nv, freeCount := s.freeCount }

/-! ### Reverse queues (R111, R112) -/

/-- R111, R113: a frame is offered to the request queue; a full queue drops and counts it. -/
def offerRequest (f : ReverseFrame) (s : State) : State :=
  if s.requestQ.length < Config.requestPlaces then { s with requestQ := s.requestQ ++ [f] }
  else { s with counters := { s.counters with reqDropped := s.counters.reqDropped + 1 } }

/-- A place in the reverse forward queue is free (R120). -/
def reverseRoom (s : State) : Bool := decide (s.reverseQ.length < Config.reversePlaces)

/-- R112, R113: a frame is offered to the reverse forward queue by the addressing unit; a full queue drops and counts it. -/
def offerReverse (f : ReverseFrame) (s : State) : State :=
  if reverseRoom s then { s with reverseQ := s.reverseQ ++ [f] }
  else { s with counters := { s.counters with rOverrun := s.counters.rOverrun + 1 } }

/-- R110: whether this part takes a request with the target. -/
def takesTarget (address : Fin 31) (target : Fin 32) : Bool :=
  target.val == 0 || target.val == 31 || target.val == address.val

/-- R110: whether this part forwards a request with the target. -/
def forwardsTarget (address : Fin 31) (target : Fin 32) : Bool :=
  target.val == 31 || (target.val != 0 && target.val != address.val)

/-! ### The request engine (R126 to R135) -/

/-- R93, R134, R158: a response finds a place when the local queue has one that no pending notice is to take (log 7). -/
def responseRoom (s : State) : Bool := localRoom s && s.notices.firstPending.isNone

/-- R126: the engine with what it still holds; with nothing left it is IDLE, or RESTARTING after the OK response of a RESTART. -/
def engineHolding (h : Held) : Engine :=
  match h.response, h.successor, h.restart with
  | none, none, none => .idle
  | none, none, some form => .restarting form
  | _, _, _ => .holding h

/-- R118, R134: the response and the successor of an executed entry are offered at once; what finds no place is held. -/
def offerAnswer (response : ResponseFrame) (successor : Option EnumFrame) (restart : Option RestartForm) (s : State) : State :=
  let entered := if responseRoom s then pushLocal (.response response) s else s
  let placed := match successor with
    | some e => if reverseRoom s then { entered with reverseQ := entered.reverseQ ++ [ReverseFrame.enumerate e] } else entered
    | none => entered
  { placed with
    engine := engineHolding
      { response := if responseRoom s then none else some response,
        successor := if reverseRoom s then none else successor,
        restart := restart } }

/-- R133: the content of the answer to a request, and what follows from it: the form of a restart (R140), and a completion that
is taken after the response (log 5). -/
structure Answer where
  result  : Result
  data    : List Byte
  restart : Option RestartForm
  late    : Option CompletionNotice
  deriving DecidableEq, Repr

/-- An answer that carries a result alone. -/
def plainAnswer (r : Result) : Answer := { result := r, data := [], restart := none, late := none }

/-- An OK answer with data. -/
def dataAnswer (data : List Byte) : Answer := { result := .ok, data := data, restart := none, late := none }

/-- R133: the response to a request, formed with the chain address as it stands. -/
def responseTo (f : RequestFrame) (a : Answer) (s : State) : ResponseFrame :=
  buildResponse (addressByte s) f.tag f.code a.result.code a.data

/-- R133, R134: the response is formed and offered. -/
def respond (f : RequestFrame) (a : Answer) (s : State) : State :=
  let answered := offerAnswer (responseTo f a s) none a.restart s
  match a.late with
  | some n => raiseCompletion n.tag n.what answered
  | none => answered

/-- What steps 1 to 6 of R128 ask of one request code: its code, the lengths it accepts, which parameters pass in BOOTING,
the ranges of its parameters, its owner's judgement (step 5) and its own conditions (step 6). -/
structure RequestRules where
  code       : Byte
  lengthOk   : Nat → Bool
  bootOk     : List Byte → Bool
  inRange    : List Byte → Bool
  owner      : List Byte → State → Option Result
  conditions : List Byte → State → Option Result

/-- R128: steps 2 to 6; the first step that fails gives the result, none when all pass. -/
def judgeRequest (r : RequestRules) (f : RequestFrame) (s : State) : Option Result :=
  if !r.lengthOk f.params.length then some .badLength
  else if s.mode = .booting ∧ r.bootOk f.params = false then some .state
  else if !r.inRange f.params then some .badParam
  else (r.owner f.params s).or (r.conditions f.params s)

/-- R127, R128: an IDLE engine takes the head of the request queue when it is a request with this code; taking and executing are
one event. A refused request changes nothing but its answer. -/
def takeRequest (r : RequestRules) (run : RequestFrame → State → State × Answer) (s : State) : State :=
  match s.engine, s.requestQ with
  | .idle, .request f :: rest =>
    if f.code = r.code then
      let taken := { s with requestQ := rest }
      match judgeRequest r f taken with
      | some refusal => respond f (plainAnswer refusal) taken
      | none => respond f (run f taken).2 (run f taken).1
    else s
  | _, _ => s

/-! ### Conditions that several requests share -/

/-- The length of a request listed with no parameters, or with one fixed length (R129). -/
def lengthIs (n : Nat) (len : Nat) : Bool := len == n

/-- Steps that never refuse. -/
def always (_ : List Byte) : Bool := true

/-- Requests answered STATE while BOOTING (R130). -/
def notInBoot (_ : List Byte) : Bool := false

/-- R130: while BOOTING a read passes when its role byte is 00h. -/
def activeRoleOnly (p : List Byte) : Bool := p.getD 0 0 == 0x00

/-- A request with no step 5 or step 6 condition. -/
def noRefusal (_ : List Byte) (_ : State) : Option Result := none

/-- R49: BUSY unless the shadow is EDITABLE. -/
def needsEditable (_ : List Byte) (s : State) : Option Result :=
  if s.shadow = .editable then none else some .busy

/-- R49: a read of the SHADOW role is BUSY while COPYING or LOADING. -/
def needsReadable (p : List Byte) (s : State) : Option Result :=
  if p.getD 0 0 = 0x01 then
    match s.shadow with
    | .copying _ | .loading => some .busy
    | _ => none
  else none

/-- R168: BUSY unless the store is IDLE. -/
def needsStoreIdle (_ : List Byte) (s : State) : Option Result :=
  if s.store.op.isNone then none else some .busy

end Sys2Proof.Machine
end

