-- ==== Sys2Proof/Machine/Records.lean ====
section
/-! DEFINITION. The identity record (R80), the status record (R81), the directory record (R85) and the counter records (R83). -/

namespace Sys2Proof.Machine

/-- R80: the identity record, 12 bytes. -/
def identityRecord (s : State) : List Byte :=
  [0x16, 0x16, 0x01, 16, 16, 64, 32, 0x01, 0x00, 4, addressByte s, s.mode.code]

/-- R81, byte 3. -/
def Shadow.code : Shadow → Byte
  | .editable => 0x00
  | .copying _ => 0x01
  | .loading => 0x02
  | .validating _ _ => 0x03
  | .armed => 0x04

/-- R81, byte 4: 00h unless the shadow is VALIDATING. -/
def purposeByte : Shadow → Byte
  | .validating .validate _ => 0x01
  | .validating .commit _ => 0x02
  | .validating .boot _ => 0x03
  | _ => 0x00

/-- R81, bytes 5 to 9: origin, mode, target group, target sequence, timer. -/
def commitBytes : Option CommitRecord → List Byte
  | none => [0x00, 0x00, 0x00, 0x00, 0x00]
  | some r =>
    let origin : Byte := match r.origin with
      | .request => 0x01
      | .boot => 0x02
    let target : List Byte := match r.mode with
      | .now => [0x00, 0x00, 0x00]
      | .atFrame group sequence => [0x01, byteOf group, sequence]
    origin :: target ++ [boolByte r.timer]

/-- R81, byte 10, and R85, byte 0. -/
def storeOpByte : Option StoreOp → Byte
  | none => 0x00
  | some .scan => 0x01
  | some (.save _ _ _ _) => 0x02
  | some (.load _ _) => 0x03
  | some (.erase _ _) => 0x04
  | some (.dirWrite _ _ _ _) => 0x05

/-- R81, bytes 16 to 63: the twelve device counters. -/
def counterBytes (c : Counters) : List Byte :=
  [c.uAccepted, c.uCheckErr, c.uMalformed, c.uOverrun, c.blocked, c.duplicates,
   c.dForwarded, c.dLocal, c.rAccepted, c.rBad, c.rOverrun, c.reqDropped].flatMap wordBytes

/-- R81: the status record, 64 bytes, from the values held. -/
def statusRecord (s : State) : List Byte :=
  [s.mode.code, addressByte s, s.active.code, s.shadow.code, purposeByte s.shadow] ++ commitBytes s.commit ++
  [storeOpByte s.store.op, boolByte (s.dTx.hold != .free), boolByte (s.flow.upstream == .asserted),
   s.flow.setting, s.notices.mask.setWidth 8, byteOf s.ingress.length] ++ counterBytes s.counters

/-- R85: state, generation, label and image length of one slot; absent fields are 0 (R163). -/
def slotViewBytes : SlotEntry → List Byte
  | .empty => 0x00 :: List.replicate 14 0
  | .incomplete => 0x01 :: List.replicate 14 0
  | .valid i => 0x02 :: (wordBytes i.generation ++ i.label.toList ++ halfBytes i.length)
  | .damaged i => 0x03 :: (wordBytes i.generation ++ i.label.toList ++ halfBytes i.length)

/-- R85, R170: the directory record, 64 bytes, from the store state, the directory view and the slot table. -/
def directoryRecord (s : State) : List Byte :=
  storeOpByte s.store.op :: settingBytes s.store.view.setting ++ s.store.table.toList.flatMap slotViewBytes

/-- R83: a SLOTS record. -/
def slotCounterBytes (c : SlotCounters) : List Byte := halfBytes c.sat ++ halfBytes c.range

/-- R83: a GROUPS record: gap and duplicate counters, tracker state, last sequence (00h when UNSYNCED). -/
def groupCounterBytes (c : GroupCounters) (t : Tracker) : List Byte :=
  halfBytes c.gap ++ halfBytes c.dup ++
    match t with
    | .unsynced => [0x00, 0x00]
    | .synced last => [0x01, last]

/-- R82: the entries of a table from `first` on, in ascending index, as R78 encodes them. -/
def tableData (b : Bank) (table : Byte) (first count : Nat) : List Byte :=
  if table = 0x00 then ((b.groups.toList.drop first).take count).flatMap groupBytes
  else if table = 0x01 then ((b.slots.toList.drop first).take count).flatMap slotBytes
  else if table = 0x02 then ((b.curves.toList.drop first).take count).flatMap curveBytes
  else ((b.points.toList.drop first).take count).flatMap pointBytes

/-- R83: one EVALUATE record. -/
def evalBytes (r : EvalResult) : List Byte :=
  halfBytes r.value ++ [indication r.range r.sat]

end Sys2Proof.Machine
end

