-- ==== Sys2Proof/Machine/BankRequests.lean ====
section
/-! DEFINITION. The bank requests COPY_ACTIVE, CLEAR_SHADOW, VALIDATE, COMMIT and CANCEL_COMMIT (R50, R51, R53, R55, R62). -/

namespace Sys2Proof.Machine

/-- R50. -/
def copyActiveRules : RequestRules :=
  { code := 0x20, lengthOk := lengthIs 0, bootOk := notInBoot, inRange := always, owner := needsEditable,
    conditions := noRefusal }

/-- R50: the shadow becomes COPYING and the tag is kept. -/
def runCopyActive (f : RequestFrame) (s : State) : State × Answer :=
  ({ s with shadow := .copying f.tag }, plainAnswer .accepted)

/-- COPY_ACTIVE (R50). -/
def execCopyActive (s : State) : Host.Outcome State Fault Refusal :=
  unlessHeld s (takeRequest copyActiveRules runCopyActive s)

/-- R51. -/
def clearShadowRules : RequestRules :=
  { code := 0x21, lengthOk := lengthIs 0, bootOk := notInBoot, inRange := always, owner := needsEditable,
    conditions := noRefusal }

/-- R51: the shadow takes the empty bank at once. -/
def runClearShadow (_ : RequestFrame) (s : State) : State × Answer := (setShadowBank Bank.empty s, dataAnswer [])

/-- CLEAR_SHADOW (R51). -/
def execClearShadow (s : State) : Host.Outcome State Fault Refusal :=
  unlessHeld s (takeRequest clearShadowRules runClearShadow s)

/-- R53. -/
def validateRules : RequestRules :=
  { code := 0x22, lengthOk := lengthIs 0, bootOk := notInBoot, inRange := always, owner := needsEditable,
    conditions := noRefusal }

/-- R53, R54: the shadow becomes VALIDATING with purpose VALIDATE and the tag. -/
def runValidate (f : RequestFrame) (s : State) : State × Answer :=
  ({ s with shadow := .validating .validate (some f.tag) }, plainAnswer .accepted)

/-- VALIDATE (R53). -/
def execValidate (s : State) : Host.Outcome State Fault Refusal := unlessHeld s (takeRequest validateRules runValidate s)

/-- R55, R84. -/
def commitRules : RequestRules :=
  { code := 0x23, lengthOk := lengthIs 5, bootOk := notInBoot, inRange := fun p => (commitModeOf p).isSome,
    owner := needsEditable, conditions := noRefusal }

/-- R55, R56: a commit record is formed and the shadow becomes VALIDATING with purpose COMMIT. -/
def runCommit (f : RequestFrame) (s : State) : State × Answer :=
  match commitModeOf f.params with
  | some mode =>
    ({ s with
        shadow := .validating .commit (some f.tag),
        commit := some { origin := .request, tag := some f.tag, mode := mode, timeout := paramHalf f.params 3, timer := false } },
     plainAnswer .accepted)
  | none => (s, plainAnswer .badParam)

/-- COMMIT (R55). -/
def execCommit (s : State) : Host.Outcome State Fault Refusal := unlessHeld s (takeRequest commitRules runCommit s)

/-- R62: taken while VALIDATING for a commit or ARMED, STATE otherwise. -/
def needsCommit (_ : List Byte) (s : State) : Option Result :=
  match s.shadow with
  | .validating .commit _ | .armed => none
  | _ => some .state

/-- R62. -/
def cancelCommitRules : RequestRules :=
  { code := 0x24, lengthOk := lengthIs 0, bootOk := notInBoot, inRange := always, owner := needsCommit,
    conditions := noRefusal }

/-- The completion notice that the end of a commit of origin REQUEST raises (R63). -/
def commitNotice (what : Completion) (s : State) : Option CompletionNotice :=
  match s.commit with
  | some { origin := .request, tag := some tag, .. } => some { tag := tag, what := what }
  | _ => none

/-- R62: the commit ends CANCELLED. Whether its notice or the response is taken first is free (log 5). -/
def runCancelCommit (_ : RequestFrame) (s : State) : State × Answer :=
  let counted := { s with freeCount := s.freeCount + 1 }
  if Config.cancelNoticeFirst s.freeCount then (endCommit .commitCancelled counted, dataAnswer [])
  else ({ counted with shadow := .editable, commit := none },
    { dataAnswer [] with late := commitNotice .commitCancelled s })

/-- CANCEL_COMMIT (R62). -/
def execCancelCommit (s : State) : Host.Outcome State Fault Refusal :=
  unlessHeld s (takeRequest cancelCommitRules runCancelCommit s)

end Sys2Proof.Machine
end

