-- ==== Sys2Proof/Machine/Completions.lean ====
section
/-! DEFINITION. The ends of long operations: copy (R50), test (R53, R57, R190), save (R173, R174), load (R176, R189),
erase (R178), directory write (R180) and scan (R182, R188, R196). -/

namespace Sys2Proof.Machine

/-- COPY_COMPLETE (R50): the shadow equals the ACTIVE bank and is EDITABLE; COPY_DONE is raised with the kept tag. -/
def execCopyComplete (s : State) : Host.Outcome State Fault Refusal :=
  unlessHeld s
    (match s.shadow with
    | .copying tag => raiseCompletion tag .copyDone { setShadowBank (activeBank s) s with shadow := .editable }
    | _ => s)

/-! ### Tests -/

/-- R53: the end of a test of purpose VALIDATE. -/
def endValidate (tag : Option Byte) (s : State) : State :=
  let fault := testBank (shadowBank s)
  let recorded := if fault.isNone then setShadowBank (recordEmits (shadowBank s)) s else s
  let ended := { recorded with shadow := .editable }
  match tag with
  | some t => raiseCompletion t (.validateDone fault) ended
  | none => ended

/-- R57, R61: the shadow becomes ARMED with its emit counts recorded, and a non-zero timeout starts the commit timer. -/
def arm (s : State) : State :=
  { setShadowBank (recordEmits (shadowBank s)) s with
    shadow := .armed,
    commit := s.commit.map fun r => { r with timer := decide (r.timeout ≠ 0) } }

/-- R58: on entry to ARMED a commit in mode NOW is swapped at once when the stage is IDLE. -/
def swapIfIdle (s : State) : State :=
  match s.stage with
  | .idle => betweenFrames s
  | _ => s

/-- TEST_COMPLETE (R53, R57, R58, R190 to R192): the test of the shadow ends, by its purpose. -/
def execTestComplete (s : State) : Host.Outcome State Fault Refusal :=
  unlessHeld s
    (match s.shadow with
    | .validating .validate tag => endValidate tag s
    | .validating .commit _ =>
      match testBank (shadowBank s) with
      | some fault => endCommit (.commitInvalid fault) s
      | none => swapIfIdle (arm s)
    | .validating .boot _ =>
      match testBank (shadowBank s) with
      | some fault => chooseCandidate (endCommit (.commitInvalid fault) s)
      | none => swapIfIdle (arm s)
    | _ => s)

/-! ### Save and erase -/

/-- The store becomes IDLE. -/
def storeIdle (s : State) : State := { s with store := { s.store with op := none } }

/-- The entry of one slot of the slot table replaced. -/
def setEntry (slot : Fin 4) (e : SlotEntry) (s : State) : State :=
  { s with store := { s.store with table := s.store.table.set slot e } }

/-- The content of one slot of the store replaced. -/
def setNvSlot (slot : Fin 4) (v : NvSlot) (s : State) : State := { s with nv := s.nv.setSlot slot v }

/-- R173: the header is committed over the buffer's body; SAVE_DONE OK carries the generation. -/
def commitSave (tag : Byte) (slot : Fin 4) (generation : Word) (label : Vector Byte 8) (s : State) : State :=
  let info : SlotInfo := { generation := generation, label := label, length := 1584 }
  let body := s.store.buffer.getD []
  raiseCompletion tag (.saveDone (some generation) slot)
    (storeIdle (setEntry slot (.valid info)
      (setNvSlot slot { header := .valid info (bodyCheck body), body := some body } s)))

/-- R174: the save ends with FAULT; header and entry stay INCOMPLETE, and the body is whatever the store kept (free, log 4). -/
def failSave (tag : Byte) (slot : Fin 4) (s : State) : State :=
  raiseCompletion tag (.saveDone none slot)
    (storeIdle (setNvSlot slot { header := .incomplete, body := Config.bodyLeft s.freeCount }
      { s with freeCount := s.freeCount + 1 }))

/-- SAVE_COMPLETE (R173, R174): `readsBack` is whether the body reads back as written, which is the store's behaviour. -/
def execSaveComplete (readsBack : Bool) (s : State) : Host.Outcome State Fault Refusal :=
  unlessHeld s
    (match s.store.op with
    | some (.save tag slot generation label) =>
      if readsBack then commitSave tag slot generation label s else failSave tag slot s
    | _ => s)

/-- R178: the slot is EMPTY. -/
def finishErase (tag : Byte) (slot : Fin 4) (s : State) : State :=
  raiseCompletion tag (.eraseDone .ok slot)
    (storeIdle (setEntry slot .empty (setNvSlot slot { header := .erased, body := none } s)))

/-- R178: the erase ends with FAULT; the header is re-marked INCOMPLETE and the entry stays INCOMPLETE. -/
def failErase (tag : Byte) (slot : Fin 4) (s : State) : State :=
  raiseCompletion tag (.eraseDone .fault slot)
    (storeIdle (setNvSlot slot { header := .incomplete, body := Config.bodyLeft s.freeCount }
      { s with freeCount := s.freeCount + 1 }))

/-- ERASE_COMPLETE (R178): `readsErased` is whether the slot reads fully erased, which is the store's behaviour. -/
def execEraseComplete (readsErased : Bool) (s : State) : Host.Outcome State Fault Refusal :=
  unlessHeld s
    (match s.store.op with
    | some (.erase tag slot) => if readsErased then finishErase tag slot s else failErase tag slot s
    | _ => s)

/-! ### Load -/

/-- R160: the store with a body that has changed since its save, as the read finds it. -/
def withBodyRead (slot : Fin 4) (read : BodyRead) (s : State) : State :=
  match read with
  | .asStored => s
  | .changed bytes => setNvSlot slot { s.nv.slots[slot] with body := some bytes } s

/-- R176: the bank that a load delivers: the body's CRC matches the header, and the body holds codes and ranges of R78 (R79). -/
def loadedBank (slot : NvSlot) : Option Bank :=
  match slot.header, slot.body with
  | .valid _ crc, some body => if bodyCheck body = crc then bankOf body else none
  | _, _ => none

/-- R163, R176: the entry of a slot whose body does not match, with generation, label and length kept. -/
def damagedEntry : SlotEntry → SlotEntry
  | .valid i | .damaged i => .damaged i
  | .empty => .empty
  | .incomplete => .incomplete

/-- R165, R176: the body is in the image buffer, and the store is IDLE and the shadow EDITABLE. -/
def endLoad (slot : Fin 4) (s : State) : State :=
  { s with
    shadow := .editable,
    store := { s.store with op := none, buffer := s.nv.slots[slot].body } }

/-- R176, R190: the image replaces every field of the shadow; LOAD_DONE OK is raised, or the boot's test starts. -/
def deliverLoad (tag : Option Byte) (slot : Fin 4) (b : Bank) (s : State) : State :=
  let loaded := setShadowBank b (endLoad slot s)
  match tag with
  | some t => raiseCompletion t (.loadDone .ok slot) loaded
  | none => startBootTest loaded

/-- R176, R189: the slot is DAMAGED and the shadow untouched; LOAD_DONE CHECK_FAIL is raised, or the boot makes its next choice. -/
def failLoad (tag : Option Byte) (slot : Fin 4) (s : State) : State :=
  let failed := setEntry slot (damagedEntry s.store.table[slot]) (endLoad slot s)
  match tag with
  | some t => raiseCompletion t (.loadDone .checkFail slot) failed
  | none => chooseCandidate failed

/-- LOAD_COMPLETE (R176, R177, R189): `read` is what the store gives for the body. -/
def execLoadComplete (read : BodyRead) (s : State) : Host.Outcome State Fault Refusal :=
  unlessHeld s
    (match s.store.op with
    | some (.load tag slot) =>
      let found := withBodyRead slot read s
      match loadedBank found.nv.slots[slot] with
      | some b => deliverLoad tag slot b found
      | none => failLoad tag slot found
    | _ => s)

/-! ### Directory write -/

/-- R180: the target copy is valid and in force, and the view takes it. -/
def finishDirWrite (tag : Byte) (d : DirSetting) (target : CopyName) (sequence : Half) (s : State) : State :=
  raiseCompletion tag (.directoryDone .ok d)
    { s with
      nv := s.nv.setCopy target (writtenCopy d sequence),
      store := { s.store with op := none, view := { setting := d, inForce := some target, sequence := sequence } } }

/-- R180: the target copy is erased, as far as the store lets it be; the view is unchanged. -/
def failDirWrite (tag : Byte) (target : CopyName) (left : DirCopy) (s : State) : State :=
  raiseCompletion tag (.directoryDone .fault s.store.view.setting)
    (storeIdle { s with nv := s.nv.setCopy target left })

/-- DIRECTORY_WRITE_COMPLETE (R180): `readBack` is what the store reads back, which is the store's behaviour. -/
def execDirectoryWriteComplete (readBack : DirReadBack) (s : State) : Host.Outcome State Fault Refusal :=
  unlessHeld s
    (match s.store.op with
    | some (.dirWrite tag d target sequence) =>
      match readBack with
      | .same => finishDirWrite tag d target sequence s
      | .differs left => failDirWrite tag target left s
    | _ => s)

/-! ### Scan -/

/-- R182: the directory view and all four entries are replaced in one step, and the store is IDLE.
A scan reads every header and both directory copies as the store holds them; R160 does not say when a marker comes to read otherwise, and
the model has no command in which one does (DESIGN CHOICE, log 16). -/
def scanned (s : State) : State :=
  { s with store := { s.store with
      op := none, table := Vector.ofFn fun i => classify s.nv.slots[i].header, view := directoryInForce s.nv } }

/-- SCAN_COMPLETE (R182, R188, R196): the boot makes its first choice, or a KEEP restart ends with the outcome KEPT. -/
def execScanComplete (s : State) : Host.Outcome State Fault Refusal :=
  unlessHeld s
    (match s.store.op with
    | some .scan =>
      match s.boot with
      | some _ => chooseCandidate (scanned s)
      | none => reportBoot .kept (scanned s)
    | _ => s)

end Sys2Proof.Machine
end

