-- ==== Sys2Proof/Machine/EngineRequests.lean ====
section
/-! DEFINITION. The request engine's own steps: Enumerate frames (R115 to R118), unknown codes (R129), held frames (R118, R134),
forming notices (R158), and the requests IDENTIFY, READ_STATUS, SET_LINK, RESTART and RELEASE_ADDRESS (R137 to R140, R119). -/

namespace Sys2Proof.Machine

/-! ### Enumerate frames -/

/-- R115 to R117: the ENUMERATED response, request code 00h. -/
def enumerated (f : EnumFrame) (result : Result) (data : List Byte) (s : State) : ResponseFrame :=
  buildResponse (addressByte s) f.tag 0x00 result.code data

/-- R115: the successor, next address n + 1, same tag, fresh check. -/
def successorOf (f : EnumFrame) : EnumFrame := buildEnum (Fin.ofNat 32 (f.next.val + 1)) f.tag

/-- ENUMERATE_TAKEN (R115 to R118): an IDLE engine takes an Enumerate from the head of the request queue.
An unaddressed part takes the address and answers OK, or NO_ADDRESS for 31; an addressed part answers STATE. -/
def execEnumerateTaken (s : State) : Host.Outcome State Fault Refusal :=
  unlessHeld s
    (match s.engine, s.requestQ with
    | .idle, .enumerate f :: rest =>
      let taken := { s with requestQ := rest }
      if s.address = 0 then
        if f.next.val = 31 then offerAnswer (enumerated f .noAddress [] taken) (some f) none taken
        else
          let addressed := { taken with address := Fin.ofNat 31 f.next.val }
          offerAnswer (enumerated f .ok (identityRecord addressed) addressed) (some (successorOf f)) none addressed
      else offerAnswer (enumerated f .state [] taken) none none taken
    | _, _ => s)

/-! ### Unknown codes -/

/-- R74: the request codes listed. -/
def knownCodes : List Byte :=
  [0x01, 0x02, 0x03, 0x04, 0x05, 0x10, 0x11, 0x12, 0x13, 0x14, 0x15, 0x16,
   0x20, 0x21, 0x22, 0x23, 0x24, 0x30, 0x31, 0x32, 0x33, 0x34, 0x35]

/-- BAD_CODE (R128, R129): a request with an unlisted code is answered BAD_CODE and carries the code back. -/
def execBadCode (s : State) : Host.Outcome State Fault Refusal :=
  unlessHeld s
    (match s.engine, s.requestQ with
    | .idle, .request f :: rest =>
      if knownCodes.contains f.code then s else respond f (plainAnswer .badCode) { s with requestQ := rest }
    | _, _ => s)

/-! ### Held frames and pending notices -/

/-- HELD_RESPONSE_ENTERS (R93, R126, R134): with a place free and no notice pending, the held response enters the local queue. -/
def execHeldResponseEnters (s : State) : Host.Outcome State Fault Refusal :=
  unlessHeld s
    (match s.engine with
    | .holding h =>
      match h.response with
      | some r =>
        if responseRoom s then { pushLocal (.response r) s with engine := engineHolding { h with response := none } } else s
      | none => s
    | _ => s)

/-- SUCCESSOR_ENTERS (R118, R126): with a place free, the held successor enters the reverse forward queue. -/
def execSuccessorEnters (s : State) : Host.Outcome State Fault Refusal :=
  unlessHeld s
    (match s.engine with
    | .holding h =>
      match h.successor with
      | some e =>
        if reverseRoom s then
          { s with reverseQ := s.reverseQ ++ [.enumerate e], engine := engineHolding { h with successor := none } }
        else s
      | none => s
    | _ => s)

/-- NOTICE_FORMED (R157, R158): the first pending notice takes a free place of the local queue. -/
def execNoticeFormed (s : State) : Host.Outcome State Fault Refusal := unlessHeld s (offerNotice s)

/-! ### IDENTIFY, READ_STATUS, SET_LINK, RESTART, RELEASE_ADDRESS -/

/-- R137: code 01h, no parameters, in every mode. -/
def identifyRules : RequestRules :=
  { code := 0x01, lengthOk := lengthIs 0, bootOk := always, inRange := always, owner := noRefusal, conditions := noRefusal }

/-- IDENTIFY (R137). -/
def execIdentify (s : State) : Host.Outcome State Fault Refusal :=
  unlessHeld s (takeRequest identifyRules (fun _ t => (t, dataAnswer (identityRecord t))) s)

/-- R138: code 02h, no parameters, in every mode. -/
def readStatusRules : RequestRules :=
  { code := 0x02, lengthOk := lengthIs 0, bootOk := always, inRange := always, owner := noRefusal, conditions := noRefusal }

/-- READ_STATUS (R138). -/
def execReadStatus (s : State) : Host.Outcome State Fault Refusal :=
  unlessHeld s (takeRequest readStatusRules (fun _ t => (t, dataAnswer (statusRecord t))) s)

/-- R139: code 03h, hold duration and mask. -/
def setLinkRules : RequestRules :=
  { code := 0x03, lengthOk := lengthIs 2, bootOk := notInBoot, inRange := setLinkInRange, owner := noRefusal,
    conditions := noRefusal }

/-- R139: both settings are replaced together. -/
def runSetLink (f : RequestFrame) (s : State) : State × Answer :=
  ({ s with flow := { s.flow with setting := param f.params 0 },
            notices := s.notices.setMask ((param f.params 1).setWidth 3) },
   dataAnswer [])

/-- SET_LINK (R139, R156). -/
def execSetLink (s : State) : Host.Outcome State Fault Refusal := unlessHeld s (takeRequest setLinkRules runSetLink s)

/-- R140: code 04h, the form. -/
def restartRules : RequestRules :=
  { code := 0x04, lengthOk := lengthIs 1, bootOk := notInBoot, inRange := fun p => (restartFormOf (param p 0)).isSome,
    owner := noRefusal, conditions := noRefusal }

/-- R140: the engine keeps the form and answers OK; nothing is restarted yet. -/
def runRestart (f : RequestFrame) (s : State) : State × Answer :=
  (s, { dataAnswer [] with restart := restartFormOf (param f.params 0) })

/-- RESTART (R126, R140). -/
def execRestart (s : State) : Host.Outcome State Fault Refusal := unlessHeld s (takeRequest restartRules runRestart s)

/-- R119: code 05h, no parameters. -/
def releaseAddressRules : RequestRules :=
  { code := 0x05, lengthOk := lengthIs 0, bootOk := notInBoot, inRange := always, owner := noRefusal, conditions := noRefusal }

/-- R119: the address becomes 0 and the answer carries the former one. -/
def runReleaseAddress (_ : RequestFrame) (s : State) : State × Answer :=
  ({ s with address := 0 }, dataAnswer [addressByte s])

/-- RELEASE_ADDRESS (R119). -/
def execReleaseAddress (s : State) : Host.Outcome State Fault Refusal :=
  unlessHeld s (takeRequest releaseAddressRules runReleaseAddress s)

end Sys2Proof.Machine
end

