-- ==== Sys2Proof/Machine/Forward.lean ====
section
/-! DEFINITION. The forward path from intake to the forward egress queue (chapter 2, R90). -/

namespace Sys2Proof.Machine

/-- R22, decision 3: the mode of the frame's group in the bank that is ACTIVE now (R24 to R26). -/
def judgeByMode (f : SampleFrame) (s : State) : State :=
  match modeOf (activeBank s) f.group with
  | .bypass => passUnchanged (.sample f) s
  | .block => { s with counters := { s.counters with blocked := s.counters.blocked + 1 } }
  | .process => { s with intake := .correcting, stage := .bound f s.active }

/-- INTAKE_SAMPLE_FRAME (R21 to R26, R59, R103): a FREE intake takes the Sample frame at the head of the ingress queue. -/
def execIntakeSampleFrame (s : State) : Host.Outcome State Fault Refusal :=
  unlessHeld s
    (match s.intake, s.ingress with
    | .free, .sample f :: rest =>
      let taken := removeIngressHead rest s
      match s.mode with
      | .booting => passUnchanged (.sample f) taken
      | .running => judgeByMode f (swapIfTarget f taken)
    | _, _ => s)

/-- INTAKE_PASSING_FRAME (R90): a FREE intake takes the Response or Notice frame at the head of the ingress queue. -/
def execIntakePassingFrame (s : State) : Host.Outcome State Fault Refusal :=
  unlessHeld s
    (match s.intake, s.ingress with
    | .free, .response f :: rest => passUnchanged (.response f) (removeIngressHead rest s)
    | .free, .notice f :: rest => passUnchanged (.notice f) (removeIngressHead rest s)
    | _, _ => s)

/-- WAITING_FRAME_PLACED (R21): a frame held WAITING takes a free place of the forward egress queue. -/
def execWaitingFramePlaced (s : State) : Host.Outcome State Fault Refusal :=
  unlessHeld s
    (match s.intake with
    | .waiting f => if egressRoom s then { s with egress := s.egress ++ [f], intake := .free } else s
    | _ => s)

/-- R29: a duplicate is discarded and counted, the group is reported, and the stage is between frames. -/
def discardDuplicate (f : SampleFrame) (s : State) : State :=
  let g := s.groupCounts[f.group]
  betweenFrames (reportSequence f.group
    { s with
      stage := .idle, intake := .free,
      groupCounts := s.groupCounts.set f.group { g with dup := satAdd g.dup 1 },
      counters := { s.counters with duplicates := s.counters.duplicates + 1 } })

/-- R40: a complete output frame is offered to the forward egress queue; without a place the stage is STALLED with its binding. -/
def deliver (out : SampleFrame) (bank : BankName) (s : State) : State :=
  if egressRoom s then
    betweenFrames { s with egress := s.egress ++ [.sample out], stage := .idle, intake := .free }
  else { s with stage := .stalled out bank }

/-- R28, R30: the tracker of the group takes the frame's sequence, and a gap is counted and reported. -/
def acceptSequence (f : SampleFrame) (missing : Nat) (s : State) : State :=
  let g := s.groupCounts[f.group]
  let tracked := { s with trackers := s.trackers.set f.group (.synced f.sequence) }
  if missing = 0 then tracked
  else reportSequence f.group
    { tracked with groupCounts := s.groupCounts.set f.group { g with gap := satAdd g.gap missing } }

/-- R31 to R40: the slots are read from the bound bank, the counters grow, and the output frame is built and offered. -/
def correctFrame (f : SampleFrame) (bank : BankName) (gap : Bool) (s : State) : State :=
  let b := bankNamed s bank
  deliver (correctedFrame b f gap) bank { s with slotCounts := countedSlots b f s.slotCounts }

/-- CORRECTION_DONE (R26 to R40): the stage finishes its bound frame. -/
def execCorrectionDone (s : State) : Host.Outcome State Fault Refusal :=
  unlessHeld s
    (match s.stage with
    | .bound f bank =>
      match judgeSequence s.trackers[f.group] f.sequence with
      | .duplicate => discardDuplicate f s
      | .synchronising | .inOrder => correctFrame f bank false (acceptSequence f 0 s)
      | .gap missing => correctFrame f bank true (acceptSequence f missing s)
    | _ => s)

/-- STALLED_OUTPUT_PLACED (R40): a STALLED output frame takes a free place; the stage is IDLE and between frames. -/
def execStalledOutputPlaced (s : State) : Host.Outcome State Fault Refusal :=
  unlessHeld s
    (match s.stage with
    | .stalled out bank => if egressRoom s then deliver out bank s else s
    | _ => s)

end Sys2Proof.Machine
end

