-- ==== Sys2Proof/Machine/Receive.lean ====
section
/-! DEFINITION. Reception on both ports (R66 to R71) and what an accepted frame does at once (R87, R108 to R113, R96, R97). -/

namespace Sys2Proof.Machine

/-- The receiver of a port. -/
def rxOf (s : State) : Port → Receiver
  | .u => s.uRx
  | .d => s.dRx

/-- The receiver of a port replaced. -/
def setRx (p : Port) (r : Receiver) (s : State) : State :=
  match p with
  | .u => { s with uRx := r }
  | .d => { s with dRx := r }

/-- R71: a check error is counted in U_CHECK_ERR or R_BAD. -/
def countCheckError (p : Port) (s : State) : State :=
  match p with
  | .u => { s with counters := { s.counters with uCheckErr := s.counters.uCheckErr + 1 } }
  | .d => { s with counters := { s.counters with rBad := s.counters.rBad + 1 } }

/-- R71: a malformed frame is counted in U_MALFORMED or R_BAD. -/
def countMalformed (p : Port) (s : State) : State :=
  match p with
  | .u => { s with counters := { s.counters with uMalformed := s.counters.uMalformed + 1 } }
  | .d => { s with counters := { s.counters with rBad := s.counters.rBad + 1 } }

/-- R108: the D receiver accepts a frame: it becomes IDLE and R_ACCEPTED is increased. -/
def acceptReverse (s : State) : State :=
  { s with dRx := .idle, counters := { s.counters with rAccepted := s.counters.rAccepted + 1 } }

/-- CHECK_ERROR (R68, R71): END closes a frame whose check differs; it is counted and dropped. -/
def execCheckError (port : Port) (s : State) : Host.Outcome State Fault Refusal :=
  unlessHeld s
    (if outcome port (rxOf s port) .close = some .checkError then setRx port .idle (countCheckError port s) else s)

/-- MALFORMED (R67, R68, R71): the symbol ends a frame that is judged malformed; it is counted and dropped, and a START opens a
new frame. -/
def execMalformed (port : Port) (symbol : EndSymbol) (s : State) : Host.Outcome State Fault Refusal :=
  unlessHeld s
    (if outcome port (rxOf s port) symbol = some .malformed then
      setRx port (afterEnd symbol) (countMalformed port s)
    else s)

/-- FRAME_OPENS (R67): a START opens a new frame. A START taken while a frame is open abandons that frame, which is malformed. -/
def execFrameOpens (port : Port) (s : State) : Host.Outcome State Fault Refusal :=
  unlessHeld s
    (match rxOf s port with
    | .idle => setRx port (.assembling []) s
    | .assembling _ | .oversize => setRx port (.assembling []) (countMalformed port s))

/-- DATA_BYTE_APPENDED (R67): the byte joins the open frame, and the 73rd makes it oversize; between frames it is ignored, and
past 72 bytes discarded. -/
def execDataByteAppended (port : Port) (byte : Byte) (s : State) : Host.Outcome State Fault Refusal :=
  unlessHeld s
    (match rxOf s port with
    | .idle => s
    | .assembling bytes =>
      if bytes.length < Config.frameBytes then setRx port (.assembling (bytes ++ [byte])) s else setRx port .oversize s
    | .oversize => s)

/-- FORWARD_FRAME_ACCEPTED (R71, R87, R88, R101): the U receiver accepts a frame and offers it to the ingress queue. -/
def execForwardFrameAccepted (s : State) : Host.Outcome State Fault Refusal :=
  unlessHeld s
    (match outcome .u s.uRx .close with
    | some (.accepted (.forward f)) => offerIngress f { s with uRx := .idle }
    | _ => s)

/-- REQUEST_FRAME (R108, R110 to R112): an accepted Request is offered to the queues its target names. -/
def execRequestFrame (s : State) : Host.Outcome State Fault Refusal :=
  unlessHeld s
    (match outcome .d s.dRx .close with
    | some (.accepted (.reverse (.request f))) =>
      let accepted := acceptReverse s
      let offered := if takesTarget s.address f.target then offerRequest (.request f) accepted else accepted
      if forwardsTarget s.address f.target then offerReverse (.request f) offered else offered
    | _ => s)

/-- ENUMERATE_FRAME (R108, R113): an accepted Enumerate is forwarded by an addressed part and queued by an unaddressed one. -/
def execEnumerateFrame (s : State) : Host.Outcome State Fault Refusal :=
  unlessHeld s
    (match outcome .d s.dRx .close with
    | some (.accepted (.reverse (.enumerate f))) =>
      if s.address = 0 then offerRequest (.enumerate f) (acceptReverse s)
      else offerReverse (.enumerate f) (acceptReverse s)
    | _ => s)

/-- HOLD_FRAME (R96, R108): an accepted Hold makes the D transmitter HELD and (re)starts the hold timer with its duration. -/
def execHoldFrame (s : State) : Host.Outcome State Fault Refusal :=
  unlessHeld s
    (match outcome .d s.dRx .close with
    | some (.accepted (.link (.hold duration _))) =>
      { acceptReverse s with dTx := { s.dTx with hold := .held duration } }
    | _ => s)

/-- RELEASE_FRAME (R97, R108): an accepted Release makes the D transmitter FREE and stops the hold timer. -/
def execReleaseFrame (s : State) : Host.Outcome State Fault Refusal :=
  unlessHeld s
    (match outcome .d s.dRx .close with
    | some (.accepted (.link (.release _))) =>
      { acceptReverse s with dTx := { s.dTx with hold := .free } }
    | _ => s)

end Sys2Proof.Machine
end

