-- ==== Sys2Proof/Machine/Reset.lean ====
section
/-! DEFINITION. The hard reset and its release (R185, R186). -/

namespace Sys2Proof.Machine

/-- R185: whether the supplies stand at their levels. -/
def suppliesGood (vddMv vddioMv : Nat) : Bool :=
  decide (Config.vddLevelMv ≤ vddMv ∧ Config.vddioLevelMv ≤ vddioMv)

/-- R185: a RESET_N low level that has lasted 10 µs, or a supply below its level, is a hard reset; a shorter low pulse and
supplies at their levels have no effect. The two causes act alike. -/
def isHardReset : ResetCause → Bool
  | .resetLow durationUs => decide (Config.resetLowUs ≤ durationUs)
  | .supplies vddMv vddioMv => !suppliesGood vddMv vddioMv

/-- The pins with what a cause presents on them. -/
def pinsWith (p : Pins) : ResetCause → Pins
  | .resetLow _ => { p with resetHigh := false }
  | .supplies vddMv vddioMv => { p with vddMv := vddMv, vddioMv := vddioMv }

/-- HARD_RESET (R185, R183, R64, R44, R194). A cause met while the part is already held in hard reset shows on the pins alone. -/
def execHardReset (cause : ResetCause) (s : State) : Host.Outcome State Fault Refusal :=
  .next
    (if isHardReset cause then
      if s.held then { s with pins := pinsWith s.pins cause }
      else { beginHardReset s with pins := pinsWith s.pins cause }
    else s)

/-- R185, R186: the condition of the release: RESET_N high, both supplies at their levels and so for 2 ms. -/
def mayRelease (p : ReleasePins) : Bool :=
  p.resetHigh && suppliesGood p.vddMv p.vddioMv && decide (Config.powerGoodUs ≤ p.supplyGoodUs)

/-- HARD_RESET_RELEASE (R186): the part leaves the hard reset when the pins allow it. -/
def execHardResetRelease (pins : ReleasePins) (s : State) : Host.Outcome State Fault Refusal :=
  .next
    (if s.held && mayRelease pins then
      releaseHardReset { resetHigh := pins.resetHigh, vddMv := pins.vddMv, vddioMv := pins.vddioMv } s
    else s)

end Sys2Proof.Machine
end

