-- ==== Sys2Proof/Machine/StoreRequests.lean ====
section
/-! DEFINITION. The store requests (R168 to R172, R175, R178, R179). -/

namespace Sys2Proof.Machine

/-- R170: code 30h, in every mode and store state. -/
def storeDirectoryRules : RequestRules :=
  { code := 0x30, lengthOk := lengthIs 0, bootOk := always, inRange := always, owner := noRefusal, conditions := noRefusal }

/-- STORE_DIRECTORY (R170). -/
def execStoreDirectory (s : State) : Host.Outcome State Fault Refusal :=
  unlessHeld s (takeRequest storeDirectoryRules (fun _ t => (t, dataAnswer (directoryRecord t))) s)

/-! ### STORE_SAVE -/

/-- R172: the generation of a slot that counts, VALID or DAMAGED. -/
def countedGeneration : SlotEntry → Nat
  | .valid i | .damaged i => i.generation.toNat
  | .empty | .incomplete => 0

/-- R172: the highest generation among the VALID and DAMAGED slots, 0 when there is none. -/
def highestGeneration (table : Vector SlotEntry 4) : Nat :=
  table.toList.foldl (fun best e => max best (countedGeneration e)) 0

/-- R168, R181: PROTECTED when the slot's bit of the mask in force is set. -/
def needsUnprotected (slot : Fin 4) (s : State) : Option Result :=
  if s.store.view.setting.mask.getLsbD slot.val then some .protected_ else none

/-- R49, R168: source SHADOW needs an EDITABLE shadow. -/
def needsSource (p : List Byte) (s : State) : Option Result :=
  if param p 0 = 0x01 then needsEditable p s else none

/-- R172: EXHAUSTED when the highest generation is FFFFFFFFh, the slot to be saved counted. R172 also says that saving over the slot that
holds FFFFFFFFh lets later saves proceed, which that refusal rules out: here the save over it is refused too, and only an erase frees the
number (DESIGN CHOICE, log 15). -/
def needsGeneration (s : State) : Option Result :=
  if highestGeneration s.store.table = 0xFFFFFFFF then some .exhausted else none

/-- R168. -/
def storeSaveRules : RequestRules :=
  { code := 0x31, lengthOk := lengthIs 10, bootOk := notInBoot, inRange := storeSaveInRange,
    owner := fun p s => (needsSource p s).or (needsStoreIdle p s),
    conditions := fun p s => (needsUnprotected (paramFin 4 p 1) s).or (needsGeneration s) }

/-- R171: the slot's header and table entry become INCOMPLETE (the body is left to the operation). -/
def markIncomplete (slot : Fin 4) (s : State) : State :=
  { s with
    nv := s.nv.setSlot slot { s.nv.slots[slot] with header := .incomplete },
    store := { s.store with table := s.store.table.set slot .incomplete } }

/-- R171, R172: the snapshot is taken, the generation fixed, the slot marked, and the SAVE begins. -/
def runStoreSave (f : RequestFrame) (s : State) : State × Answer :=
  let slot := paramFin 4 f.params 1
  let generation : Word := BitVec.ofNat 32 (highestGeneration s.store.table + 1)
  let marked := markIncomplete slot s
  ({ marked with store := { marked.store with
      op := some (.save f.tag slot generation (labelOf f.params)),
      buffer := some (bankBytes (roleBank s (param f.params 0))) } },
   plainAnswer .accepted)

/-- STORE_SAVE (R171). -/
def execStoreSave (s : State) : Host.Outcome State Fault Refusal :=
  unlessHeld s (takeRequest storeSaveRules runStoreSave s)

/-! ### STORE_LOAD and STORE_ERASE -/

/-- R168: a slot EMPTY or INCOMPLETE is answered EMPTY, a DAMAGED one CHECK_FAIL. -/
def needsValidSlot (p : List Byte) (s : State) : Option Result :=
  match s.store.table[paramFin 4 p 0] with
  | .empty | .incomplete => some .empty
  | .damaged _ => some .checkFail
  | .valid _ => none

/-- R168. -/
def storeLoadRules : RequestRules :=
  { code := 0x32, lengthOk := lengthIs 1, bootOk := notInBoot, inRange := storeSlotInRange,
    owner := fun p s => (needsEditable p s).or (needsStoreIdle p s), conditions := needsValidSlot }

/-- R175: the shadow becomes LOADING and the store BUSY with LOAD. -/
def runStoreLoad (f : RequestFrame) (s : State) : State × Answer :=
  ({ s with
      shadow := .loading,
      store := { s.store with op := some (.load (some f.tag) (paramFin 4 f.params 0)) } },
   plainAnswer .accepted)

/-- STORE_LOAD (R175). -/
def execStoreLoad (s : State) : Host.Outcome State Fault Refusal :=
  unlessHeld s (takeRequest storeLoadRules runStoreLoad s)

/-- R168. -/
def storeEraseRules : RequestRules :=
  { code := 0x33, lengthOk := lengthIs 1, bootOk := notInBoot, inRange := storeSlotInRange, owner := needsStoreIdle,
    conditions := fun p s => needsUnprotected (paramFin 4 p 0) s }

/-- R178: the slot is marked and the ERASE begins. -/
def runStoreErase (f : RequestFrame) (s : State) : State × Answer :=
  let marked := markIncomplete (paramFin 4 f.params 0) s
  ({ marked with store := { marked.store with op := some (.erase f.tag (paramFin 4 f.params 0)) } }, plainAnswer .accepted)

/-- STORE_ERASE (R178). -/
def execStoreErase (s : State) : Host.Outcome State Fault Refusal :=
  unlessHeld s (takeRequest storeEraseRules runStoreErase s)

/-! ### STORE_SET_BOOT and STORE_PROTECT -/

/-- R179: the target copy and the sequence of a directory write. -/
def writeTarget (v : DirView) : CopyName × Half :=
  match v.inForce with
  | some .copy0 => (.copy1, v.sequence + 1)
  | some .copy1 => (.copy0, v.sequence + 1)
  | none => (.copy0, 1)

/-- R179: the directory write of a setting begins. -/
def beginDirWrite (f : RequestFrame) (d : DirSetting) (s : State) : State :=
  { s with store := { s.store with
      op := some (.dirWrite f.tag d (writeTarget s.store.view).1 (writeTarget s.store.view).2) } }

/-- R168. -/
def storeSetBootRules : RequestRules :=
  { code := 0x34, lengthOk := lengthIs 2, bootOk := notInBoot, inRange := setBootInRange, owner := needsStoreIdle,
    conditions := noRefusal }

/-- R179: boot slot and fallback as requested, the mask as in the view. -/
def runStoreSetBoot (f : RequestFrame) (s : State) : State × Answer :=
  (beginDirWrite f
    { s.store.view.setting with
      boot := (bootSlotOf (param f.params 0)).getD none,
      fallback := param f.params 1 == 0x01 } s,
   plainAnswer .accepted)

/-- STORE_SET_BOOT (R179). -/
def execStoreSetBoot (s : State) : Host.Outcome State Fault Refusal :=
  unlessHeld s (takeRequest storeSetBootRules runStoreSetBoot s)

/-- R168. -/
def storeProtectRules : RequestRules :=
  { code := 0x35, lengthOk := lengthIs 1, bootOk := notInBoot, inRange := protectInRange, owner := needsStoreIdle,
    conditions := noRefusal }

/-- R179: the mask as requested, boot slot and fallback as in the view. -/
def runStoreProtect (f : RequestFrame) (s : State) : State × Answer :=
  (beginDirWrite f { s.store.view.setting with mask := (param f.params 0).setWidth 4 } s, plainAnswer .accepted)

/-- STORE_PROTECT (R179). -/
def execStoreProtect (s : State) : Host.Outcome State Fault Refusal :=
  unlessHeld s (takeRequest storeProtectRules runStoreProtect s)

end Sys2Proof.Machine
end

