-- ==== Sys2Proof/Machine/TableRequests.lean ====
section
/-! DEFINITION. The table writes (R142 to R146), READ_TABLE (R147), READ_COUNTERS (R148) and EVALUATE (R149). -/

namespace Sys2Proof.Machine

/-! ### Table writes: whole, into the EDITABLE shadow, answered OK -/

/-- R143. -/
def writeGroupRules : RequestRules :=
  { code := 0x10, lengthOk := lengthIs 3, bootOk := notInBoot, inRange := writeGroupInRange, owner := needsEditable,
    conditions := noRefusal }

/-- R143, R5: the entry holds the mode and output group written, and its emit count is 0. -/
def writtenGroup (p : List Byte) (b : Bank) : Bank :=
  match groupModeOf (param p 1) with
  | some mode => { b with groups := b.groups.set (paramFin 16 p 0) { mode := mode, out := paramFin 16 p 2, emit := 0 } }
  | none => b

/-- The write applied to the shadow. -/
def runWriteGroup (f : RequestFrame) (s : State) : State × Answer :=
  (setShadowBank (writtenGroup f.params (shadowBank s)) s, dataAnswer [])

/-- WRITE_GROUP (R142, R143). -/
def execWriteGroup (s : State) : Host.Outcome State Fault Refusal :=
  unlessHeld s (takeRequest writeGroupRules runWriteGroup s)

/-- R144. -/
def writeMapRules : RequestRules :=
  { code := 0x11, lengthOk := lengthIs 7, bootOk := notInBoot, inRange := writeMapInRange, owner := needsEditable,
    conditions := noRefusal }

/-- R144: the slot is replaced whole, in use or empty. -/
def writtenMap (p : List Byte) (b : Bank) : Bank :=
  match slotOf (p.drop 1) with
  | some entry => { b with slots := b.slots.set (paramFin 64 p 0) entry }
  | none => b

/-- The write applied to the shadow. -/
def runWriteMap (f : RequestFrame) (s : State) : State × Answer :=
  (setShadowBank (writtenMap f.params (shadowBank s)) s, dataAnswer [])

/-- WRITE_MAP (R142, R144). -/
def execWriteMap (s : State) : Host.Outcome State Fault Refusal :=
  unlessHeld s (takeRequest writeMapRules runWriteMap s)

/-- R145. -/
def writeCurveRules : RequestRules :=
  { code := 0x12, lengthOk := lengthIs 5, bootOk := notInBoot, inRange := writeCurveInRange, owner := needsEditable,
    conditions := noRefusal }

/-- R145: the entry is replaced, defined or undefined. -/
def writtenCurve (p : List Byte) (b : Bank) : Bank :=
  match curveOf (p.drop 1) with
  | some entry => { b with curves := b.curves.set (paramFin 32 p 0) entry }
  | none => b

/-- The write applied to the shadow. -/
def runWriteCurve (f : RequestFrame) (s : State) : State × Answer :=
  (setShadowBank (writtenCurve f.params (shadowBank s)) s, dataAnswer [])

/-- WRITE_CURVE (R142, R145). -/
def execWriteCurve (s : State) : Host.Outcome State Fault Refusal :=
  unlessHeld s (takeRequest writeCurveRules runWriteCurve s)

/-- R146. -/
def writePointsRules : RequestRules :=
  { code := 0x13, lengthOk := pointsLength, bootOk := notInBoot, inRange := writePointsInRange, owner := needsEditable,
    conditions := noRefusal }

/-- R146: the value written to pool index `i`, none outside the written run. -/
def writtenPoint (p : List Byte) (i : Nat) : Option Point :=
  if paramNat p 0 ≤ i ∧ i < paramNat p 0 + pointsCount p then
    some { x := paramHalf p (1 + 4 * (i - paramNat p 0)), y := paramHalf p (3 + 4 * (i - paramNat p 0)) }
  else none

/-- R146: all points of the run take the values written together. -/
def writtenPoints (p : List Byte) (b : Bank) : Bank :=
  { b with points := Vector.ofFn fun i => (writtenPoint p i).getD b.points[i] }

/-- The write applied to the shadow. -/
def runWritePoints (f : RequestFrame) (s : State) : State × Answer :=
  (setShadowBank (writtenPoints f.params (shadowBank s)) s, dataAnswer [])

/-- WRITE_POINTS (R142, R146). -/
def execWritePoints (s : State) : Host.Outcome State Fault Refusal :=
  unlessHeld s (takeRequest writePointsRules runWritePoints s)

/-! ### Reads -/

/-- R147. -/
def readTableRules : RequestRules :=
  { code := 0x14, lengthOk := lengthIs 4, bootOk := activeRoleOnly, inRange := readTableInRange, owner := needsReadable,
    conditions := noRefusal }

/-- R147: the entries of the bank that holds the role. -/
def runReadTable (f : RequestFrame) (s : State) : State × Answer :=
  (s, dataAnswer (tableData (roleBank s (param f.params 0)) (param f.params 1) (paramNat f.params 2) (paramNat f.params 3)))

/-- READ_TABLE (R147). -/
def execReadTable (s : State) : Host.Outcome State Fault Refusal :=
  unlessHeld s (takeRequest readTableRules runReadTable s)

/-- R148. -/
def readCountersRules : RequestRules :=
  { code := 0x15, lengthOk := lengthIs 4, bootOk := notInBoot, inRange := readCountersInRange, owner := noRefusal,
    conditions := noRefusal }

/-- R148: whether an index lies in the records read. -/
def inRecords (p : List Byte) (i : Nat) : Bool := decide (paramNat p 1 ≤ i ∧ i < paramNat p 1 + paramNat p 2)

/-- R83: the records of the set, in ascending index. -/
def counterData (p : List Byte) (s : State) : List Byte :=
  if param p 0 = 0x00 then ((s.slotCounts.toList.drop (paramNat p 1)).take (paramNat p 2)).flatMap slotCounterBytes
  else (((s.groupCounts.toList.zip s.trackers.toList).drop (paramNat p 1)).take (paramNat p 2)).flatMap fun ct =>
    groupCounterBytes ct.1 ct.2

/-- R41, R42, R148: the counters read are set to 0, the trackers are left as they were. -/
def clearedCounters (p : List Byte) (s : State) : State :=
  if param p 0 = 0x00 then
    { s with slotCounts := Vector.ofFn fun i => if inRecords p i then { sat := 0, range := 0 } else s.slotCounts[i] }
  else
    { s with groupCounts := Vector.ofFn fun i => if inRecords p i then { gap := 0, dup := 0 } else s.groupCounts[i] }

/-- R148: the values are taken first and then cleared when asked. -/
def runReadCounters (f : RequestFrame) (s : State) : State × Answer :=
  (if param f.params 3 = 0x01 then clearedCounters f.params s else s, dataAnswer (counterData f.params s))

/-- READ_COUNTERS (R148). -/
def execReadCounters (s : State) : Host.Outcome State Fault Refusal :=
  unlessHeld s (takeRequest readCountersRules runReadCounters s)

/-! ### EVALUATE -/

/-- R149: the curve that an EVALUATE names, when it is defined and ordered (R12). -/
def usableCurve (p : List Byte) (s : State) : Option CurveDef :=
  match (roleBank s (param p 0)).curves[paramFin 32 p 1] with
  | some c => if ordered (curvePoints (roleBank s (param p 0)) c) then some c else none
  | none => none

/-- R149, step 6: BAD_PARAM when the curve is undefined or not ordered. -/
def needsUsableCurve (p : List Byte) (s : State) : Option Result :=
  if (usableCurve p s).isSome then none else some .badParam

/-- R149. -/
def evaluateRules : RequestRules :=
  { code := 0x16, lengthOk := evaluateLength, bootOk := activeRoleOnly, inRange := evaluateInRange, owner := needsReadable,
    conditions := needsUsableCurve }

/-- R83, R149: one record per value, in the order of the values. -/
def evaluateData (p : List Byte) (s : State) : List Byte :=
  match usableCurve p s with
  | some c => (halvesOf (p.drop 2)).flatMap fun x => evalBytes (evalCurve (curvePoints (roleBank s (param p 0)) c) c.policy x)
  | none => []

/-- R149: nothing of the part changes. -/
def runEvaluate (f : RequestFrame) (s : State) : State × Answer := (s, dataAnswer (evaluateData f.params s))

/-- EVALUATE (R149). -/
def execEvaluate (s : State) : Host.Outcome State Fault Refusal := unlessHeld s (takeRequest evaluateRules runEvaluate s)

end Sys2Proof.Machine
end

