-- ==== Sys2Proof/Machine/Timers.lean ====
section
/-! DEFINITION. The three timers' expiries (R98, R102, R61). A timer that is stopped does not expire. -/

namespace Sys2Proof.Machine

/-- HOLD_TIMER_EXPIRY (R98): the D transmitter becomes FREE. -/
def execHoldTimerExpiry (s : State) : Host.Outcome State Fault Refusal :=
  unlessHeld s
    (match s.dTx.hold with
    | .held _ => { s with dTx := { s.dTx with hold := .free } }
    | .free => s)

/-- REFRESH_TIMER_EXPIRY (R102): while ASSERTED a new Hold is placed, with the setting now in force, and the timer restarts. -/
def execRefreshTimerExpiry (s : State) : Host.Outcome State Fault Refusal :=
  unlessHeld s
    (match s.flow.upstream, s.flow.refresh with
    | .asserted, some _ => { s with flow := placeHold s.flow }
    | _, _ => s)

/-- COMMIT_TIMER_EXPIRY (R61): an ARMED commit whose timer is RUNNING ends EXPIRED. -/
def execCommitTimerExpiry (s : State) : Host.Outcome State Fault Refusal :=
  unlessHeld s
    (match s.shadow, s.commit with
    | .armed, some { timer := true, .. } => endCommit .commitExpired s
    | _, _ => s)

end Sys2Proof.Machine
end

