-- ==== Sys2Proof/Machine/Transmit.lean ====
section
/-! DEFINITION. The two transmitters: starts, completions, the port D arbiter and the report of the RESTART response (R94, R95, R121, R141). -/

namespace Sys2Proof.Machine

/-- R95: the queue the arbiter serves; none when both are empty. -/
def arbiterChoice (lastServed : Source) (forward : List ForwardFrame) (ofLocal : List LocalFrame) : Option Source :=
  match forward, ofLocal with
  | [], [] => none
  | _ :: _, [] => some .forward
  | [], _ :: _ => some .ofLocal
  | _ :: _, _ :: _ => some (match lastServed with
    | .forward => .ofLocal
    | .ofLocal => .forward)

/-- R94: a frame of the forward egress queue starts. -/
def startForward (s : State) : State :=
  match s.egress with
  | [] => s
  | f :: rest =>
    { s with
      egress := rest,
      counters := { s.counters with dForwarded := s.counters.dForwarded + 1 },
      dTx := { s.dTx with send := .sending (.forward f), lastServed := .forward, lane := .frame } }

/-- R94, R152: a frame of the local queue starts, and the notice unit learns of it. -/
def startLocal (s : State) : State :=
  match s.localQ with
  | [] => s
  | f :: rest =>
    { s with
      localQ := rest,
      counters := { s.counters with dLocal := s.counters.dLocal + 1 },
      dTx := { s.dTx with send := .sending (.ofLocal f), lastServed := .ofLocal, lane := .frame },
      notices := s.notices.frameStarted f }

/-- D_FRAME_START (R94, R95, R152): READY and FREE, the D transmitter starts a frame from the queue the arbiter chooses. -/
def execDFrameStart (s : State) : Host.Outcome State Fault Refusal :=
  unlessHeld s
    (match s.dTx.send, s.dTx.hold with
    | .ready, .free =>
      match arbiterChoice s.dTx.lastServed s.egress s.localQ with
      | some .forward => startForward s
      | some .ofLocal => startLocal s
      | none => s
    | _, _ => s)

/-- R94: the frame is the OK response to a RESTART, sent from the local queue. -/
def isRestartResponse : DFrame → Bool
  | .ofLocal (.response f) => f.code == 0x04 && f.result == Result.ok.code
  | _ => false

/-- D_FRAME_SENT (R94, R141, R195): the frame and its gap are complete; when it is the response the RESTARTING engine waits for, the
restart begins. -/
def execDFrameSent (s : State) : Host.Outcome State Fault Refusal :=
  unlessHeld s
    (match s.dTx.send with
    | .ready => s
    | .sending f =>
      let sent := { s with dTx := { s.dTx with send := .ready, lane := .idle } }
      match s.engine with
      | .restarting form => if isRestartResponse f then beginRestart form sent else sent
      | _ => sent)

/-- U_FRAME_START (R104, R121): READY, the U transmitter starts the frame of the link-control slot, or else the head of the reverse
forward queue. -/
def execUFrameStart (s : State) : Host.Outcome State Fault Refusal :=
  unlessHeld s
    (match s.uTx.send, s.flow.slot, s.reverseQ with
    | .ready, some f, _ =>
      { s with flow := { s.flow with slot := none }, uTx := { send := .sending (.link f), lane := .frame } }
    | .ready, none, f :: rest =>
      { s with reverseQ := rest, uTx := { send := .sending (.reverse f), lane := .frame } }
    | _, _, _ => s)

/-- U_FRAME_SENT (R121): the frame and its gap are complete. -/
def execUFrameSent (s : State) : Host.Outcome State Fault Refusal :=
  unlessHeld s
    (match s.uTx.send with
    | .ready => s
    | .sending _ => { s with uTx := { send := .ready, lane := .idle } })

end Sys2Proof.Machine
end

