-- ==== Sys2Proof/Machine/Dispatch.lean ====
section
/-! DEFINITION. One arm per command: the meaning each calls. -/

namespace Sys2Proof.Machine

/-- A command's effect on everything but the queue of waiting commands. -/
def exec (i : Instr) (s : State) : Host.Outcome State Fault Refusal :=
  match i with
  | .hardReset cause => Sys2Proof.Machine.execHardReset cause s
  | .hardResetRelease pins => Sys2Proof.Machine.execHardResetRelease pins s
  | .checkError port => Sys2Proof.Machine.execCheckError port s
  | .malformed port symbol => Sys2Proof.Machine.execMalformed port symbol s
  | .forwardFrameAccepted => Sys2Proof.Machine.execForwardFrameAccepted s
  | .intakeSampleFrame => Sys2Proof.Machine.execIntakeSampleFrame s
  | .intakePassingFrame => Sys2Proof.Machine.execIntakePassingFrame s
  | .waitingFramePlaced => Sys2Proof.Machine.execWaitingFramePlaced s
  | .correctionDone => Sys2Proof.Machine.execCorrectionDone s
  | .stalledOutputPlaced => Sys2Proof.Machine.execStalledOutputPlaced s
  | .dFrameStart => Sys2Proof.Machine.execDFrameStart s
  | .dFrameSent => Sys2Proof.Machine.execDFrameSent s
  | .uFrameStart => Sys2Proof.Machine.execUFrameStart s
  | .uFrameSent => Sys2Proof.Machine.execUFrameSent s
  | .requestFrame => Sys2Proof.Machine.execRequestFrame s
  | .enumerateFrame => Sys2Proof.Machine.execEnumerateFrame s
  | .holdFrame => Sys2Proof.Machine.execHoldFrame s
  | .releaseFrame => Sys2Proof.Machine.execReleaseFrame s
  | .holdTimerExpiry => Sys2Proof.Machine.execHoldTimerExpiry s
  | .refreshTimerExpiry => Sys2Proof.Machine.execRefreshTimerExpiry s
  | .commitTimerExpiry => Sys2Proof.Machine.execCommitTimerExpiry s
  | .enumerateTaken => Sys2Proof.Machine.execEnumerateTaken s
  | .badCode => Sys2Proof.Machine.execBadCode s
  | .identify => Sys2Proof.Machine.execIdentify s
  | .readStatus => Sys2Proof.Machine.execReadStatus s
  | .setLink => Sys2Proof.Machine.execSetLink s
  | .restart => Sys2Proof.Machine.execRestart s
  | .releaseAddress => Sys2Proof.Machine.execReleaseAddress s
  | .writeGroup => Sys2Proof.Machine.execWriteGroup s
  | .writeMap => Sys2Proof.Machine.execWriteMap s
  | .writeCurve => Sys2Proof.Machine.execWriteCurve s
  | .writePoints => Sys2Proof.Machine.execWritePoints s
  | .readTable => Sys2Proof.Machine.execReadTable s
  | .readCounters => Sys2Proof.Machine.execReadCounters s
  | .evaluate => Sys2Proof.Machine.execEvaluate s
  | .copyActive => Sys2Proof.Machine.execCopyActive s
  | .clearShadow => Sys2Proof.Machine.execClearShadow s
  | .validate => Sys2Proof.Machine.execValidate s
  | .commit => Sys2Proof.Machine.execCommit s
  | .cancelCommit => Sys2Proof.Machine.execCancelCommit s
  | .storeDirectory => Sys2Proof.Machine.execStoreDirectory s
  | .storeSave => Sys2Proof.Machine.execStoreSave s
  | .storeLoad => Sys2Proof.Machine.execStoreLoad s
  | .storeErase => Sys2Proof.Machine.execStoreErase s
  | .storeSetBoot => Sys2Proof.Machine.execStoreSetBoot s
  | .storeProtect => Sys2Proof.Machine.execStoreProtect s
  | .heldResponseEnters => Sys2Proof.Machine.execHeldResponseEnters s
  | .successorEnters => Sys2Proof.Machine.execSuccessorEnters s
  | .noticeFormed => Sys2Proof.Machine.execNoticeFormed s
  | .copyComplete => Sys2Proof.Machine.execCopyComplete s
  | .testComplete => Sys2Proof.Machine.execTestComplete s
  | .saveComplete readsBack => Sys2Proof.Machine.execSaveComplete readsBack s
  | .loadComplete read => Sys2Proof.Machine.execLoadComplete read s
  | .eraseComplete readsErased => Sys2Proof.Machine.execEraseComplete readsErased s
  | .directoryWriteComplete readBack => Sys2Proof.Machine.execDirectoryWriteComplete readBack s
  | .scanComplete => Sys2Proof.Machine.execScanComplete s
  | .frameOpens port => Sys2Proof.Machine.execFrameOpens port s
  | .dataByteAppended port byte => Sys2Proof.Machine.execDataByteAppended port byte s

end Sys2Proof.Machine
end

