-- ==== Sys2Proof/Safety.lean ====
section
/-! DEFINITION. What counts as a sound state of the part: the properties the spec states of it at every moment.
While the part is held in hard reset (R185) its queues and counters wait for the release, so some properties speak of other moments. -/

namespace Sys2Proof.Machine

/-- R67: a receiver holds at most 72 bytes. -/
def Receiver.bounded : Receiver → Bool
  | .assembling bytes => decide (bytes.length ≤ 72)
  | .idle | .oversize => true

/-- R89, R91, R93, R114, R120: no queue ever holds more than its places. -/
abbrev QueuesBounded (s : State) : Prop :=
  s.ingress.length ≤ 8 ∧ s.egress.length ≤ 8 ∧ s.localQ.length ≤ 4 ∧ s.requestQ.length ≤ 4 ∧ s.reverseQ.length ≤ 8 ∧
    s.uRx.bounded = true ∧ s.dRx.bounded = true

/-- R21, R26: the intake is CORRECTING exactly while the stage holds a frame. -/
abbrev StageFollowsIntake (s : State) : Prop := s.intake = .correcting ↔ s.stage ≠ .idle

/-- R106: the frames held at intake or in the correction stage, counted once. -/
def framesAtIntake (s : State) : Nat :=
  match s.intake with
  | .free => 0
  | .waiting _ | .correcting => 1

/-- R106: the forward frames held by the part. -/
def framesHeld (s : State) : Nat := s.ingress.length + framesAtIntake s + s.egress.length

/-- R106: the conservation of forward frames, modulo 2^32. -/
abbrev FramesConserved (s : State) : Prop :=
  s.counters.uAccepted =
    s.counters.dForwarded + s.counters.blocked + s.counters.duplicates + BitVec.ofNat 32 (framesHeld s)

/-- R106 with what it rests on; in hard reset the equality is not spoken of. -/
abbrev ForwardSound (s : State) : Prop := StageFollowsIntake s ∧ (s.held = false → FramesConserved s)

/-- R5, R46: a bank that passes the test and carries the emit counts the test records. The empty bank is one. -/
abbrev InService (b : Bank) : Prop := testBank b = none ∧ recordEmits b = b

/-- R46: the ACTIVE bank is in service, and so will be a shadow that is ARMED. -/
abbrev ActiveSound (s : State) : Prop :=
  InService (activeBank s) ∧ (s.shadow = .armed → InService (shadowBank s))

/-- R47, R54, R56: whether the shadow is in a state that a commit record goes with. -/
def Shadow.inCommit : Shadow → Bool
  | .validating .commit _ | .validating .boot _ | .armed => true
  | _ => false

/-- R56, R61: a commit record is held exactly while a commit is in progress, with a tag exactly when its origin is REQUEST, and its
timer runs in ARMED alone, with a timeout. -/
abbrev CommitSound (s : State) : Prop :=
  (s.commit.isSome = s.shadow.inCommit) ∧
    ∀ r, s.commit = some r →
      (r.tag.isSome = decide (r.origin = .request)) ∧ (r.timer = true → s.shadow = .armed ∧ r.timeout ≠ 0)

/-- R52, R166: whether the store operation is a load. -/
def StoreOp.isLoad : StoreOp → Bool
  | .load _ _ => true
  | _ => false

/-- R52: the shadow is LOADING exactly while the store is BUSY with LOAD. -/
abbrev LoadSound (s : State) : Prop := (s.shadow = .loading) ↔ (s.store.op.any StoreOp.isLoad = true)

/-- R187: what each phase of the boot goes with in the store, the shadow and the commit record. -/
abbrev PhaseSound (r : BootRecord) (s : State) : Prop :=
  match r.phase with
  | .scan => s.store.op = some .scan ∧ s.shadow = .editable ∧ r.candidate = none ∧ r.tried = []
  | .load =>
    s.shadow = .loading ∧ ∃ slot generation, r.candidate = some (slot, generation) ∧ slot ∈ r.tried ∧
      s.store.op = some (.load none slot)
  | .test =>
    r.candidate.isSome = true ∧ s.store.op = none ∧ s.shadow = .validating .boot none ∧
      s.commit = some { origin := .boot, tag := none, mode := .now, timeout := 0, timer := false }

/-- R187, R184, R190: a boot record is held exactly while BOOTING, each phase goes with its work, the correction stage is IDLE and the
tried set holds no slot twice; without one, nothing that the boot starts is in progress. -/
abbrev BootSound (s : State) : Prop :=
  s.held = false →
    match s.boot with
    | some r => s.mode = .booting ∧ s.stage = .idle ∧ r.tried.Nodup ∧ PhaseSound r s
    | none =>
      s.mode = .running ∧ (∀ slot, s.store.op ≠ some (.load none slot)) ∧ (∀ tag, s.shadow ≠ .validating .boot tag) ∧
        ∀ r, s.commit = some r → r.origin = .request

/-- What the bank controller, the store controller and the start-up logic hold goes together. -/
abbrev ControlSound (s : State) : Prop := CommitSound s ∧ LoadSound s ∧ BootSound s

/-- R100 to R103: the refresh timer runs exactly while ASSERTED; while ASSERTED the occupancy is above 2, while QUIET below 6. -/
abbrev FlowSound (s : State) : Prop :=
  (s.flow.refresh.isSome = true ↔ s.flow.upstream = .asserted) ∧
    (s.held = false →
      (s.flow.upstream = .asserted → 2 < s.ingress.length) ∧ (s.flow.upstream = .quiet → s.ingress.length < 6))

/-- R152: how many notices of an unsolicited kind wait in the local queue. -/
def noticesWaiting (k : UnsolicitedKind) (q : List LocalFrame) : Nat :=
  (q.filter fun f => match f with
    | .notice n => n.code == k.code
    | .response _ => false).length

/-- R152, R155: the local queue holds one notice of an unsolicited kind while it is QUEUED and none otherwise, and no BOOT_DONE is
outstanding while a scan or a boot that will report one is in progress. -/
abbrev NoticesSound (s : State) : Prop :=
  s.held = false →
    (∀ k, noticesWaiting k s.localQ = if s.notices.outstanding k = .queued then 1 else 0) ∧
      (s.store.op = some .scan ∨ s.boot.isSome = true → s.notices.bootDone = .idle)

/-! ### The restart handshake -/

/-- R94, R140: how many OK responses to a RESTART this part has in the local queue or in transmission. -/
def restartResponses (s : State) : Nat :=
  (s.localQ.filter fun f => isRestartResponse (.ofLocal f)).length +
    match s.dTx.send with
    | .sending f => if isRestartResponse f then 1 else 0
    | .ready => 0

/-- R126, R140, R141: the engine is RESTARTING exactly while one OK response to a RESTART is on its way; HOLDING it holds a frame, and
the form of a restart exactly with the OK response of that RESTART. -/
abbrev RestartSound (s : State) : Prop :=
  s.held = false →
    match s.engine with
    | .idle => restartResponses s = 0
    | .restarting _ => restartResponses s = 1
    | .holding h =>
      restartResponses s = 0 ∧ (h.response.isSome = true ∨ h.successor.isSome = true) ∧
        (h.restart.isSome = h.response.any fun r => isRestartResponse (.ofLocal (.response r))) ∧
        (h.restart.isSome = true → h.successor = none)

/-! ### Banks and frames -/

/-- R9: the ranges of a defined curve, its span inside the pool. -/
abbrev CurveDef.wellFormed (c : CurveDef) : Prop := 2 ≤ c.count ∧ c.count ≤ 16 ∧ c.start.val + c.count ≤ 256

/-- R9: every defined curve of a bank has its ranges. -/
abbrev Bank.wellFormed (b : Bank) : Prop := ∀ (i : Fin 32) (c : CurveDef), b.curves[i] = some c → c.wellFormed

/-- R9: a defined entry in either bank always has its span inside the pool. -/
abbrev BanksSound (s : State) : Prop := s.bankA.wellFormed ∧ s.bankB.wellFormed

/-- R12: from some point of a defined curve to the next, both in the pool, x does not rise. -/
abbrev CurveUnordered (b : Bank) (c : CurveDef) : Prop :=
  ∃ (j : Nat) (_ : c.start.val + j + 1 < 256), j + 1 < c.count ∧
    (b.points[c.start.val + j + 1]).x.toInt ≤ (b.points[c.start.val + j]).x.toInt

/-- R18: the number k of in-use slots of a group. -/
def slotsOf (b : Bank) (g : Fin 16) : Nat := (List.finRange 64).countP fun s => (b.slots[s]).any fun e => e.group == g

/-- R18: the number under which a group that is not BLOCK emits. -/
def emitsUnder (b : Bank) (g : Fin 16) : Fin 16 := if (b.groups[g]).mode = .process then (b.groups[g]).out else g

/-- R16 to R18: the check that a fault names fails in the bank, whatever the other checks find. The index is that of the curve, slot or
group examined. -/
def CheckFails (b : Bank) (f : TestFault) : Prop :=
  match f.kind with
  | .curveOrder => ∃ (i : Fin 32) (c : CurveDef), i.val = f.index.val ∧ b.curves[i] = some c ∧ CurveUnordered b c
  | .dupKey => ∃ (t : Fin 64) (e below : MapEntry), b.slots[f.index] = some e ∧ t < f.index ∧ b.slots[t] = some below ∧
      below.group = e.group ∧ below.pos = e.pos
  | .curveMissing => ∃ e : MapEntry, b.slots[f.index] = some e ∧ (b.groups[e.group]).mode = .process ∧ e.action = .correct ∧
      b.curves[e.curve] = none
  | .outposDup => ∃ (t : Fin 64) (e below : MapEntry), b.slots[f.index] = some e ∧ (b.groups[e.group]).mode = .process ∧
      t < f.index ∧ b.slots[t] = some below ∧ below.group = e.group ∧ below.out = e.out
  | .groupEmpty => ∃ g : Fin 16, g.val = f.index.val ∧ (b.groups[g]).mode = .process ∧ slotsOf b g = 0
  | .outposHole => ∃ g : Fin 16, g.val = f.index.val ∧ (b.groups[g]).mode = .process ∧
      ¬ ∀ q, q < slotsOf b g ↔ ∃ (s : Fin 64) (e : MapEntry), b.slots[s] = some e ∧ e.group = g ∧ e.out.val = q
  | .groupClash => ∃ g h : Fin 16, g.val = f.index.val ∧ h < g ∧ (b.groups[g]).mode ≠ .block ∧ (b.groups[h]).mode ≠ .block ∧
      emitsUnder b g = emitsUnder b h

/-- R15 to R19: the place of a check in the test: by pass, then by index, then by its order among the checks of one item. -/
def checkPlace (f : TestFault) : Nat :=
  match f.kind with
  | .curveOrder => 4 * f.index.val
  | .dupKey => 256 + 4 * f.index.val
  | .curveMissing => 256 + 4 * f.index.val + 1
  | .outposDup => 256 + 4 * f.index.val + 2
  | .groupEmpty => 512 + 4 * f.index.val
  | .outposHole => 512 + 4 * f.index.val + 1
  | .groupClash => 512 + 4 * f.index.val + 2

/-- R26: a frame in the correction stage is bound to the bank that is ACTIVE, in which its group is PROCESS. -/
abbrev BindingSound (s : State) : Prop :=
  StageFollowsIntake s ∧
    (∀ f bank, s.stage = .bound f bank → bank = s.active ∧ modeOf (activeBank s) f.group = .process) ∧
    (∀ out bank, s.stage = .stalled out bank → bank = s.active)

/-- R92: the forward frame held at intake or in the correction stage. -/
def frameAtIntake (s : State) : List ForwardFrame :=
  match s.intake, s.stage with
  | .free, _ => []
  | .waiting f, _ => [f]
  | .correcting, .idle => []
  | .correcting, .bound f _ => [.sample f]
  | .correcting, .stalled out _ => [.sample out]

/-- R92: the forward frames of the part, next to leave first. -/
def forwardLine (s : State) : List ForwardFrame := s.egress ++ frameAtIntake s ++ s.ingress

/-- R92: what one step may do to the forward frames: nothing; the first leaves; a frame joins at the end; the frame at place `n`
(that of the intake) is discarded, or is replaced by a Sample frame with its sequence. -/
abbrev LineMove (n : Nat) (before after : List ForwardFrame) : Prop :=
  after = before ∨ after = before.drop 1 ∨ (∃ f, after = before ++ [f]) ∨ after = before.eraseIdx n ∨
    ∃ f g : SampleFrame, before[n]? = some (.sample f) ∧ g.sequence = f.sequence ∧ after = before.set n (.sample g)

/-- R70, R73 to R77: the field ranges of a frame, and the port at which its kind is legal. -/
def Frame.legalAt (port : Port) : Frame → Bool
  | .forward (.sample f) => port == .u && decide (1 ≤ f.samples.length ∧ f.samples.length ≤ 16)
  | .forward (.response f) => port == .u && decide (f.data.length ≤ 64)
  | .forward (.notice f) => port == .u && decide (f.data.length ≤ 16)
  | .reverse (.request f) => port == .d && decide (f.params.length ≤ 64)
  | .reverse (.enumerate f) => port == .d && f.next != 0
  | .link (.hold duration _) => port == .d && duration != 0
  | .link (.release _) => port == .d

/-- R73 to R77: the bytes of a frame up to its check. -/
def Frame.body : Frame → List Byte
  | .forward (.sample f) => f.body
  | .forward (.response f) => f.body
  | .forward (.notice f) => f.body
  | .reverse (.request f) => f.body
  | .reverse (.enumerate f) => f.body
  | .link f => f.body

/-- R69: the check a frame carries. -/
def Frame.check : Frame → Half
  | .forward (.sample f) => f.check
  | .forward (.response f) => f.check
  | .forward (.notice f) => f.check
  | .reverse (.request f) => f.check
  | .reverse (.enumerate f) => f.check
  | .link f => f.check

/-- R68 to R70: a frame that a port accepts. -/
abbrev Frame.wellFormedAt (port : Port) (f : Frame) : Prop := f.legalAt port = true ∧ f.check = frameCheck f.body

/-- R163, R172: the generation of an entry that is VALID or DAMAGED. -/
def generationOf : SlotEntry → Option Word
  | .valid i | .damaged i => some i.generation
  | .empty | .incomplete => none

/-- R172: no two slots that are VALID or DAMAGED carry the same generation. -/
abbrev GenerationsDistinct (table : Fin 4 → SlotEntry) : Prop :=
  ∀ i j : Fin 4, i ≠ j → (generationOf (table i)).isSome = true → generationOf (table i) ≠ generationOf (table j)

/-- R166, R171, R178: a save or an erase in progress finds its slot INCOMPLETE and unprotected (R181), and a save will commit a
generation above every other (R172). -/
def opSound (s : State) : Bool :=
  match s.store.op with
  | some (.save _ slot generation _) =>
    s.store.table[slot] == .incomplete && !(s.store.view.setting.mask.getLsbD slot.val) &&
      (List.finRange 4).all fun i => (generationOf s.store.table[i]).all fun g => decide (g.toNat < generation.toNat)
  | some (.erase _ slot) => s.store.table[slot] == .incomplete && !(s.store.view.setting.mask.getLsbD slot.val)
  | _ => true

/-- R163, R182: outside a scan the slot table shows the headers of the store, but that a slot may be marked DAMAGED. -/
abbrev TableShowsStore (s : State) : Prop :=
  s.held = false → s.store.op ≠ some .scan →
    ∀ i : Fin 4, classify s.nv.slots[i].header =
      match s.store.table[i] with
      | .damaged info => .valid info
      | e => e

/-- R172, R181 with what they rest on. -/
abbrev StoreSound (s : State) : Prop :=
  GenerationsDistinct (fun i => s.store.table[i]) ∧ GenerationsDistinct (fun i => classify s.nv.slots[i].header) ∧
    opSound s = true ∧ TableShowsStore s

/-! ### The words of the statements about requests and notices -/

/-- R127: an IDLE engine will take the Request frame `f`, with the given code, from the head of the request queue. -/
abbrev Takes (code : Byte) (f : RequestFrame) (rest : List ReverseFrame) (s : State) : Prop :=
  s.held = false ∧ s.engine = .idle ∧ s.requestQ = .request f :: rest ∧ f.code = code

/-- R93, R134: a response that is formed now enters the local queue at once: a place is free, and no pending notice is to take it. -/
abbrev Roomy (s : State) : Prop := s.localQ.length < 4 ∧ s.notices.firstPending = none

/-- R151, R158: no notice is pending and no follower waits. -/
abbrev Quiet (s : State) : Prop :=
  s.notices.firstPending = none ∧ ∀ i : Fin 7, (s.notices.completions[i]).follower = none

/-- R75, R133, R134: the state with the response to `f` formed: at the tail of the local queue, or held by the engine when no place is
free for it. -/
def answeredWith (f : RequestFrame) (result : Result) (data : List Byte) (s : State) : State :=
  let response := buildResponse (byteOf s.address) f.tag f.code result.code data
  if Roomy s then { s with localQ := s.localQ ++ [.response response] }
  else { s with engine := .holding { response := some response, successor := none, restart := none } }

/-- R157: the state with a notice of this part at the tail of the local queue. -/
def noticed (tag code : Byte) (data : List Byte) (s : State) : State :=
  { s with localQ := s.localQ ++ [.notice (buildNotice (byteOf s.address) tag code data)] }

/-- R74: the command that takes a request of a code; none for an unknown code. -/
def commandOf (code : Byte) : Option Instr :=
  if code = 0x01 then some .identify else if code = 0x02 then some .readStatus else if code = 0x03 then some .setLink
  else if code = 0x04 then some .restart else if code = 0x05 then some .releaseAddress
  else if code = 0x10 then some .writeGroup else if code = 0x11 then some .writeMap else if code = 0x12 then some .writeCurve
  else if code = 0x13 then some .writePoints else if code = 0x14 then some .readTable
  else if code = 0x15 then some .readCounters else if code = 0x16 then some .evaluate
  else if code = 0x20 then some .copyActive else if code = 0x21 then some .clearShadow else if code = 0x22 then some .validate
  else if code = 0x23 then some .commit else if code = 0x24 then some .cancelCommit
  else if code = 0x30 then some .storeDirectory else if code = 0x31 then some .storeSave
  else if code = 0x32 then some .storeLoad else if code = 0x33 then some .storeErase
  else if code = 0x34 then some .storeSetBoot else if code = 0x35 then some .storeProtect
  else none

/-- R80 to R85, R129: the parameter lengths accepted for a code. -/
def acceptedLength (code : Byte) (n : Nat) : Prop :=
  if code = 0x03 ∨ code = 0x34 then n = 2
  else if code = 0x04 ∨ code = 0x32 ∨ code = 0x33 ∨ code = 0x35 then n = 1
  else if code = 0x10 then n = 3
  else if code = 0x11 then n = 7
  else if code = 0x12 ∨ code = 0x23 then n = 5
  else if code = 0x13 then ∃ k, 1 ≤ k ∧ k ≤ 15 ∧ n = 1 + 4 * k
  else if code = 0x14 ∨ code = 0x15 then n = 4
  else if code = 0x16 then ∃ k, 1 ≤ k ∧ k ≤ 16 ∧ n = 2 + 2 * k
  else if code = 0x31 then n = 10
  else n = 0

/-! ### The words of the statements about commits and the store -/

/-- R22, R59: a commit is ARMED in mode AT and the frame carries its target. -/
def atTarget (f : SampleFrame) (s : State) : Bool :=
  match s.shadow, s.commit with
  | .armed, some { mode := .atFrame group sequence, .. } => f.group == group && f.sequence == sequence
  | _, _ => false

/-- R60, effects 1 to 5: the roles exchange, the shadow is EDITABLE, the commit record is gone, the slot counters are 0, and the tracker
of a group that is PROCESS in exactly one of the two banks is UNSYNCED. -/
def afterSwap (s : State) : State :=
  { s with
    active := s.active.other
    shadow := .editable
    commit := none
    slotCounts := Vector.replicate 64 { sat := 0, range := 0 }
    trackers := Vector.ofFn fun g =>
      if (modeOf s.bankA g = .process ↔ modeOf s.bankB g = .process) then s.trackers[g] else .unsynced }

/-- R183: what a store operation that is ended leaves in the store: the slot of a save INCOMPLETE; that of an erase INCOMPLETE or erased; a
directory write's target copy not valid; nothing else changed. -/
abbrev Interrupted (op : Option StoreOp) (before after : NvStore) : Prop :=
  match op with
  | some (.save _ slot _ _) =>
    (after.slots[slot]).header = .incomplete ∧ (∀ i, i ≠ slot → after.slots[i] = before.slots[i]) ∧
      after.copy0 = before.copy0 ∧ after.copy1 = before.copy1
  | some (.erase _ slot) =>
    ((after.slots[slot]).header = .incomplete ∨ (after.slots[slot]).header = .erased) ∧
      (∀ i, i ≠ slot → after.slots[i] = before.slots[i]) ∧ after.copy0 = before.copy0 ∧ after.copy1 = before.copy1
  | some (.dirWrite _ _ .copy0 _) => copySetting after.copy0 = none ∧ after.copy1 = before.copy1 ∧ after.slots = before.slots
  | some (.dirWrite _ _ .copy1 _) => copySetting after.copy1 = none ∧ after.copy0 = before.copy0 ∧ after.slots = before.slots
  | some .scan | some (.load _ _) | none => after = before

end Sys2Proof.Machine
end

