-- ==== Sys2Proof/Certificates/Slice0/Obligations.lean ====
section
/-! DEFINITION. The statements for the provers. Each is a closed proposition about exec, step or one operation of the model;
OBLIGATIONS.json lists them with the rule or section of spec/ each rests on. -/

open Sys2Proof Sys2Proof.Machine

/-! ### The step, the queue of commands and hard reset -/

/-- A step runs the command at the front of the queue, and idles on an empty queue.
For every command c and state s whose queue of waiting commands is c followed by rest, step answers exec of c on s with the
queue rest. With an empty queue step answers s itself. The queue of commands is the model's own (log 1). -/
def Obligations.StepRunsFrontCommand : Prop :=
  (∀ (c : Instr) (s : State) (rest : List Instr), s.pending = c :: rest → step s = exec c { s with pending := rest }) ∧
  (∀ s : State, s.pending = [] → step s = .next s)

/-- Every command answers a next state and keeps the queue; in hard reset no event is taken.
For every command and every state exec answers a next state, never a fault or a refusal, and the queue of waiting commands is
as it was. While the part is held in hard reset, every command other than HARD_RESET and HARD_RESET_RELEASE leaves the state
as it was (log 3). -/
def Obligations.EveryCommandCompletes : Prop :=
  (∀ (c : Instr) (s : State), ∃ t, exec c s = .next t ∧ t.pending = s.pending) ∧
  (∀ (c : Instr) (s : State), s.held = true → (∀ cause, c ≠ .hardReset cause) → (∀ p, c ≠ .hardResetRelease p) →
     exec c s = .next s)

/-- A hard reset ends every piece of work; a short pulse and good supplies do nothing.
A RESET_N low level of 10 us or more, or a supply below its level, makes the part held: the receivers are idle, intake and
stage are empty, both transmitters are READY and silent, the hold and refresh timers are stopped, the engine is IDLE, no
commit, notice or store operation is left, the shadow is EDITABLE, the ACTIVE bank keeps its content, and the store holds what
R183 lets an interruption leave. A low level shorter than 10 us, and supplies at their levels, change nothing. What of the
volatile state changes here and what at the release is the model's choice (log 12). -/
def Obligations.HardResetEndsAllWork : Prop :=
  (∀ (s : State) (cause : ResetCause), s.held = false →
     (match cause with
       | .resetLow durationUs => 10 ≤ durationUs
       | .supplies vddMv vddioMv => vddMv < 1080 ∨ vddioMv < 2970) →
     ∃ t, exec (.hardReset cause) s = .next t ∧
       t.held = true ∧ t.boot = none ∧ t.uRx = .idle ∧ t.dRx = .idle ∧ t.intake = .free ∧ t.stage = .idle ∧
       t.dTx.send = .ready ∧ t.dTx.lane = .silent ∧ t.dTx.hold = .free ∧ t.uTx.send = .ready ∧ t.uTx.lane = .silent ∧
       t.flow.refresh = none ∧ t.engine = .idle ∧ t.commit = none ∧ t.shadow = .editable ∧
       t.store.op = none ∧ t.store.buffer = none ∧ t.notices.firstPending = none ∧
       t.active = s.active ∧ activeBank t = activeBank s ∧ Interrupted s.store.op s.nv t.nv) ∧
  (∀ s : State,
     (∀ durationUs, durationUs < 10 → exec (.hardReset (.resetLow durationUs)) s = .next s) ∧
     (∀ vddMv vddioMv, 1080 ≤ vddMv → 2970 ≤ vddioMv → exec (.hardReset (.supplies vddMv vddioMv)) s = .next s))

/-- The release of a hard reset gives every volatile item its value after hard reset.
With RESET_N high and both supplies at their levels for 2 ms, HARD_RESET_RELEASE on a held part gives every volatile item the
value of table 10.2.1, starts a boot with its scan, and keeps the content of the store. Otherwise it changes nothing: with
pins that do not allow the release, and on a part that is not held (log 3). The pins shown, the command queue and the counter
of free values are the model's own (logs 1, 2 and 4). -/
def Obligations.ReleaseGivesHardResetValues : Prop :=
  (∀ (s : State) (p : ReleasePins), s.held = true → p.resetHigh = true → 1080 ≤ p.vddMv → 2970 ≤ p.vddioMv →
     2000 ≤ p.supplyGoodUs →
     exec (.hardResetRelease p) s = .next {
       pending := s.pending
       held := false
       pins := { resetHigh := true, vddMv := p.vddMv, vddioMv := p.vddioMv }
       mode := .booting
       boot := some { phase := .scan, candidate := none, tried := [] }
       uRx := .idle
       dRx := .idle
       ingress := []
       intake := .free
       stage := .idle
       trackers := Vector.replicate 16 .unsynced
       slotCounts := Vector.replicate 64 { sat := 0, range := 0 }
       groupCounts := Vector.replicate 16 { gap := 0, dup := 0 }
       egress := []
       localQ := []
       dTx := { send := .ready, hold := .free, lastServed := .ofLocal, lane := .idle }
       uTx := { send := .ready, lane := .idle }
       flow := { upstream := .quiet, refresh := none, setting := 64, slot := none }
       counters := {
         uAccepted := 0, uCheckErr := 0, uMalformed := 0, uOverrun := 0, blocked := 0, duplicates := 0, dForwarded := 0,
         dLocal := 0, rAccepted := 0, rBad := 0, rOverrun := 0, reqDropped := 0 }
       address := 0
       requestQ := []
       reverseQ := []
       engine := .idle
       notices := {
         mask := 7, completions := Vector.replicate 7 { pending := none, follower := none }, bootDone := .idle,
         bootOutcome := none, overrun := .idle, overrunSet := false, sequence := .idle, accumulator := 0 }
       bankA := Bank.empty
       bankB := Bank.empty
       active := .a
       shadow := .editable
       commit := none
       store := {
         op := some .scan, table := Vector.replicate 4 .empty,
         view := { setting := { boot := none, fallback := false, mask := 0 }, inForce := none, sequence := 0 }, buffer := none }
       nv := s.nv
       freeCount := s.freeCount }) ∧
  (∀ (s : State) (p : ReleasePins),
     (s.held = false ∨ p.resetHigh = false ∨ p.vddMv < 1080 ∨ p.vddioMv < 2970 ∨ p.supplyGoodUs < 2000) →
     exec (.hardResetRelease p) s = .next s)

/-! ### Frames and reception -/

/-- A receiver assembles at most 72 bytes, and a dropped frame is counted once at its receiver.
START opens a frame, and in an open frame counts that frame malformed first; a byte joins an open frame up to 72 bytes, the
next makes it oversize, later ones and bytes between frames change nothing. CHECK_ERROR on a frame judged so empties the
receiver and counts U_CHECK_ERR or R_BAD; MALFORMED on a frame judged so counts U_MALFORMED or R_BAD and leaves the receiver
IDLE, or ASSEMBLING a new frame when the symbol was START. Nothing else changes. -/
def Obligations.ReceiversAssembleAndDrop : Prop :=
  (∀ (s : State) (port : Port), s.held = false →
     (rxOf s port = .idle → exec (.frameOpens port) s = .next (setRx port (.assembling []) s)) ∧
     (rxOf s port ≠ .idle → exec (.frameOpens port) s = .next (setRx port (.assembling []) (countMalformed port s))) ∧
     (∀ byte, rxOf s port = .idle → exec (.dataByteAppended port byte) s = .next s) ∧
     (∀ byte bytes, rxOf s port = .assembling bytes → bytes.length < 72 →
       exec (.dataByteAppended port byte) s = .next (setRx port (.assembling (bytes ++ [byte])) s)) ∧
     (∀ byte bytes, rxOf s port = .assembling bytes → 72 ≤ bytes.length →
       exec (.dataByteAppended port byte) s = .next (setRx port .oversize s)) ∧
     (∀ byte, rxOf s port = .oversize → exec (.dataByteAppended port byte) s = .next s)) ∧
  (∀ s : State, s.held = false →
     (∀ bytes, s.uRx = .assembling bytes → judge .u bytes = .checkError →
       exec (.checkError .u) s =
         .next { s with uRx := .idle, counters := { s.counters with uCheckErr := s.counters.uCheckErr + 1 } }) ∧
     (∀ bytes, s.dRx = .assembling bytes → judge .d bytes = .checkError →
       exec (.checkError .d) s =
         .next { s with dRx := .idle, counters := { s.counters with rBad := s.counters.rBad + 1 } }) ∧
     (∀ symbol, outcome .u s.uRx symbol = some .malformed →
       exec (.malformed .u symbol) s =
         .next { s with
           uRx := if symbol = .start then .assembling [] else .idle
           counters := { s.counters with uMalformed := s.counters.uMalformed + 1 } }) ∧
     (∀ symbol, outcome .d s.dRx symbol = some .malformed →
       exec (.malformed .d symbol) s =
         .next { s with
           dRx := if symbol = .start then .assembling [] else .idle
           counters := { s.counters with rBad := s.counters.rBad + 1 } }))

/-- The judgement of a frame takes its steps in order.
A frame ended by any symbol but END, and an oversize frame, is malformed; so is a closed frame of fewer than three bytes. A
frame whose check differs is a check error, whatever its kind byte. A frame with the right check and a kind that is unknown or
not legal at the port is malformed. A frame with the right check and a legal kind is malformed when a field of table R70 is
out of its range or its length is not the one its count or length field gives, and is accepted when all are in order. -/
def Obligations.FrameJudgementInOrder : Prop :=
  ∀ (port : Port) (bytes body : List Byte) (kind hi lo : Byte),
    (∀ symbol, symbol ≠ .close → outcome port (.assembling bytes) symbol = some .malformed) ∧
    (∀ symbol, outcome port .oversize symbol = some .malformed) ∧
    (bytes.length < 3 → judge port bytes = .malformed) ∧
    (frameCheck (kind :: body) ≠ halfOf hi lo → judge port (kind :: body ++ [hi, lo]) = .checkError) ∧
    (frameCheck (kind :: body) = halfOf hi lo →
      (kind = 0 ∨ 7 < kind.toNat ∨ (port = .u ∧ kind ∉ [(0x01 : Byte), 0x03, 0x04]) ∨
        (port = .d ∧ kind ∉ [(0x02 : Byte), 0x05, 0x06, 0x07])) →
      judge port (kind :: body ++ [hi, lo]) = .malformed) ∧
    (frameCheck (kind :: body) = halfOf hi lo →
      let sample : Prop := ∃ (group sequence flags count : Byte) (samples : List Byte),
        body = group :: sequence :: flags :: count :: samples ∧ group.toNat ≤ 15 ∧ 1 ≤ count.toNat ∧ count.toNat ≤ 16 ∧
          samples.length = 2 * count.toNat
      let request : Prop := ∃ (target tag code n : Byte) (params : List Byte),
        body = target :: tag :: code :: n :: params ∧ target.toNat ≤ 31 ∧ n.toNat ≤ 64 ∧ params.length = n.toNat
      let response : Prop := ∃ (source tag code result n : Byte) (data : List Byte),
        body = source :: tag :: code :: result :: n :: data ∧ n.toNat ≤ 64 ∧ data.length = n.toNat
      let notice : Prop := ∃ (source tag code n : Byte) (data : List Byte),
        body = source :: tag :: code :: n :: data ∧ n.toNat ≤ 16 ∧ data.length = n.toNat
      let enumerate : Prop := ∃ next tag : Byte, body = [next, tag] ∧ 1 ≤ next.toNat ∧ next.toNat ≤ 31
      let hold : Prop := ∃ duration : Byte, body = [duration] ∧ 1 ≤ duration.toNat
      let inOrder : Prop :=
        (port = .u ∧ kind = 0x01 ∧ sample) ∨ (port = .u ∧ kind = 0x03 ∧ response) ∨ (port = .u ∧ kind = 0x04 ∧ notice) ∨
          (port = .d ∧ kind = 0x02 ∧ request) ∨ (port = .d ∧ kind = 0x05 ∧ enumerate) ∨ (port = .d ∧ kind = 0x06 ∧ hold) ∨
          (port = .d ∧ kind = 0x07 ∧ body = [])
      (¬ inOrder → judge port (kind :: body ++ [hi, lo]) = .malformed) ∧
      (inOrder → ∃ f, judge port (kind :: body ++ [hi, lo]) = .accepted f))

/-- A receiver accepts exactly the bytes of well-formed frames, and reads each as the frame it is.
For every port, frame and bytes: the judgement of the bytes at the port is 'accepted' with that frame if and only if the frame
is in order at that port (kind, field ranges, right check) and the bytes are the frame's bytes as sent. Such a frame has at
most 72 bytes. The bytes of each kind are its kind byte and its fields in the order of R73 to R77, then the check, high byte
first. So reading and writing frames agree for every kind, with every field at every value it may have. -/
def Obligations.FramesAreAcceptedAsSent : Prop :=
  (∀ (port : Port) (f : Frame),
    (f.wellFormedAt port → f.bytes.length ≤ 72) ∧
    ∀ bytes : List Byte, judge port bytes = .accepted f ↔ f.wellFormedAt port ∧ f.bytes = bytes) ∧
  (∀ f : Frame, f.bytes =
    (match f with
      | .forward (.sample f) => [0x01, byteOf f.group, f.sequence, f.flags, byteOf f.samples.length] ++ f.samples.flatMap halfBytes
      | .reverse (.request f) => [0x02, byteOf f.target, f.tag, f.code, byteOf f.params.length] ++ f.params
      | .forward (.response f) => [0x03, f.source, f.tag, f.code, f.result, byteOf f.data.length] ++ f.data
      | .forward (.notice f) => [0x04, f.source, f.tag, f.code, byteOf f.data.length] ++ f.data
      | .reverse (.enumerate f) => [0x05, byteOf f.next, f.tag]
      | .link (.hold duration _) => [0x06, duration]
      | .link (.release _) => [0x07]) ++
    [f.check.extractLsb' 8 8, f.check.extractLsb' 0 8])

/-- The frame check is the 16-bit cyclic check with the parameters of R69.
The check starts at FFFFh and takes the bits of each byte most significant first under the polynomial 1021h, with no final
inversion; over the bytes 31h to 39h it is 29B1h; over a frame's bytes and its two check bytes, high byte first, it leaves 0
exactly when the check is right. A frame's bytes end with its check, high byte first. Every frame the part builds carries the
check of its own bytes, and every accepted frame is the bytes it arrived as, check included. -/
def Obligations.FrameCheckIsTheCyclicCheck : Prop :=
  frameCheck [] = 0xFFFF ∧
  (∀ (bytes : List Byte) (b : Byte), frameCheck (bytes ++ [b]) =
    (List.range 8).foldl
      (fun (c : Half) i => if (c.msb ^^ b.getLsbD (7 - i)) = true then (c <<< 1) ^^^ 0x1021#16 else c <<< 1) (frameCheck bytes)) ∧
  frameCheck [0x31, 0x32, 0x33, 0x34, 0x35, 0x36, 0x37, 0x38, 0x39] = 0x29B1 ∧
  (∀ (bytes : List Byte) (hi lo : Byte), frameCheck bytes = halfOf hi lo ↔ frameCheck (bytes ++ [hi, lo]) = 0) ∧
  (∀ f : Frame, f.bytes = f.body ++ [f.check.extractLsb' 8 8, f.check.extractLsb' 0 8]) ∧
  (∀ group sequence flags samples,
    let f := buildSample group sequence flags samples
    f.check = frameCheck f.body) ∧
  (∀ source tag code result data,
    let f := buildResponse source tag code result data
    f.check = frameCheck f.body) ∧
  (∀ source tag code data,
    let f := buildNotice source tag code data
    f.check = frameCheck f.body) ∧
  (∀ next tag,
    let f := buildEnum next tag
    f.check = frameCheck f.body) ∧
  (∀ duration, (buildHold duration).check = frameCheck (buildHold duration).body) ∧
  buildRelease.check = frameCheck buildRelease.body ∧
  (∀ port bytes f, judge port bytes = .accepted f → f.bytes = bytes)

/-- An accepted forward frame joins the ingress queue, or is dropped, counted and reported.
FORWARD_FRAME_ACCEPTED on a frame that the U receiver accepts: with a free place it joins the ingress queue, U_ACCEPTED grows,
and the entry that makes the occupancy 6 while QUIET asserts the upstream hold. With 8 frames in the queue it is dropped,
U_OVERRUN grows, and OVERRUN gathers it by its state: disabled or PENDING nothing more, QUEUED sets its indication, IDLE with
no place becomes PENDING, IDLE with a free place and nothing pending forms the notice with the counter's value. -/
def Obligations.ForwardFrameIsOfferedToIngress : Prop :=
  (∀ (s : State) (bytes : List Byte) (f : ForwardFrame), s.held = false → s.uRx = .assembling bytes →
     judge .u bytes = .accepted (.forward f) → s.ingress.length < 8 →
     exec .forwardFrameAccepted s = .next { s with
       uRx := .idle
       ingress := s.ingress ++ [f]
       counters := { s.counters with uAccepted := s.counters.uAccepted + 1 }
       flow :=
         if s.ingress.length = 5 ∧ s.flow.upstream = .quiet then
           { s.flow with
             upstream := .asserted
             refresh := some (if s.flow.setting = 1 then 1 else s.flow.setting.toNat / 2)
             slot := some (.hold s.flow.setting (frameCheck [0x06, s.flow.setting])) }
         else s.flow }) ∧
  (∀ (s : State) (bytes : List Byte) (f : ForwardFrame), s.held = false → s.uRx = .assembling bytes →
     judge .u bytes = .accepted (.forward f) → s.ingress.length = 8 →
     let dropped : State := { s with
       uRx := .idle
       counters := { s.counters with uOverrun := s.counters.uOverrun + 1 } }
     (s.notices.mask.getLsbD 1 = false → exec .forwardFrameAccepted s = .next dropped) ∧
     (s.notices.mask.getLsbD 1 = true → s.notices.overrun = .pending → exec .forwardFrameAccepted s = .next dropped) ∧
     (s.notices.mask.getLsbD 1 = true → s.notices.overrun = .queued →
       exec .forwardFrameAccepted s = .next { dropped with notices := { s.notices with overrunSet := true } }) ∧
     (s.notices.mask.getLsbD 1 = true → s.notices.overrun = .idle → s.localQ.length = 4 →
       exec .forwardFrameAccepted s = .next { dropped with notices := { s.notices with overrun := .pending } }) ∧
     (s.notices.mask.getLsbD 1 = true → s.notices.overrun = .idle → Roomy s →
       exec .forwardFrameAccepted s =
         .next (noticed 0 0x02 (wordBytes (s.counters.uOverrun + 1))
           { dropped with notices := { s.notices with overrun := .queued, overrunSet := false } })))

/-- An accepted Request or Enumerate goes to the queues its target or the chain address names.
REQUEST_FRAME: a target 0, 31 or the part's address offers the frame to the request queue, a target 31 or any other non-zero
address offers it to the reverse forward queue. ENUMERATE_FRAME: an addressed part offers it to the reverse forward queue, an
unaddressed one to the request queue. Each queue judges its offer alone and counts what it drops in REQ_DROPPED or R_OVERRUN;
R_ACCEPTED grows by 1. -/
def Obligations.ReverseFramesAreRouted : Prop :=
  (∀ (s : State) (bytes : List Byte) (f : RequestFrame), s.held = false → s.dRx = .assembling bytes →
     judge .d bytes = .accepted (.reverse (.request f)) →
     let taken : Prop := f.target.val = 0 ∨ f.target.val = 31 ∨ f.target.val = s.address.val
     let forwarded : Prop := f.target.val = 31 ∨ (f.target.val ≠ 0 ∧ f.target.val ≠ s.address.val)
     exec .requestFrame s = .next { s with
       dRx := .idle
       requestQ := if taken ∧ s.requestQ.length < 4 then s.requestQ ++ [.request f] else s.requestQ
       reverseQ := if forwarded ∧ s.reverseQ.length < 8 then s.reverseQ ++ [.request f] else s.reverseQ
       counters := { s.counters with
         rAccepted := s.counters.rAccepted + 1
         reqDropped := if taken ∧ ¬ s.requestQ.length < 4 then s.counters.reqDropped + 1 else s.counters.reqDropped
         rOverrun := if forwarded ∧ ¬ s.reverseQ.length < 8 then s.counters.rOverrun + 1 else s.counters.rOverrun } }) ∧
  (∀ (s : State) (bytes : List Byte) (f : EnumFrame), s.held = false → s.dRx = .assembling bytes →
     judge .d bytes = .accepted (.reverse (.enumerate f)) →
     (s.address ≠ 0 →
       exec .enumerateFrame s = .next { s with
         dRx := .idle
         reverseQ := if s.reverseQ.length < 8 then s.reverseQ ++ [.enumerate f] else s.reverseQ
         counters := { s.counters with
           rAccepted := s.counters.rAccepted + 1
           rOverrun := if s.reverseQ.length < 8 then s.counters.rOverrun else s.counters.rOverrun + 1 } }) ∧
     (s.address = 0 →
       exec .enumerateFrame s = .next { s with
         dRx := .idle
         requestQ := if s.requestQ.length < 4 then s.requestQ ++ [.enumerate f] else s.requestQ
         counters := { s.counters with
           rAccepted := s.counters.rAccepted + 1
           reqDropped := if s.requestQ.length < 4 then s.counters.reqDropped else s.counters.reqDropped + 1 } }))

/-- Hold, Release and the hold timer's expiry set the hold state of the D transmitter.
An accepted Hold makes the transmitter HELD with its own duration, whether it was FREE or HELD; an accepted Release makes it
FREE; each is counted in R_ACCEPTED. The expiry of a running hold timer makes it FREE, and a stopped timer does not expire, so
that a Release and an expiry in either order leave it FREE. -/
def Obligations.HoldAndReleaseActOnDTransmitter : Prop :=
  ∀ (s : State), s.held = false →
    (∀ bytes duration check, s.dRx = .assembling bytes → judge .d bytes = .accepted (.link (.hold duration check)) →
      exec .holdFrame s = .next { s with
        dRx := .idle
        counters := { s.counters with rAccepted := s.counters.rAccepted + 1 }
        dTx := { s.dTx with hold := .held duration } }) ∧
    (∀ bytes check, s.dRx = .assembling bytes → judge .d bytes = .accepted (.link (.release check)) →
      exec .releaseFrame s = .next { s with
        dRx := .idle
        counters := { s.counters with rAccepted := s.counters.rAccepted + 1 }
        dTx := { s.dTx with hold := .free } }) ∧
    (∀ duration, s.dTx.hold = .held duration →
      exec .holdTimerExpiry s = .next { s with dTx := { s.dTx with hold := .free } }) ∧
    (s.dTx.hold = .free → exec .holdTimerExpiry s = .next s)

/-- The upstream hold is asserted at occupancy 6, renewed by the timer, and lifted at occupancy 2.
The entry of a frame that makes the occupancy 6 while QUIET places a Hold with the setting in the slot, asserts the hold and
starts the refresh timer; any other entry leaves flow control alone. The removal of a frame by either intake command that
makes the occupancy 2 while ASSERTED places a Release, makes the hold QUIET and stops the timer; any other removal leaves flow
control alone. A refresh expiry while ASSERTED places a new Hold with the setting in force and restarts the timer; while QUIET
or with the timer stopped there is none. -/
def Obligations.UpstreamHoldFollowsOccupancy : Prop :=
  ∀ s : State, s.held = false →
    let setting := s.flow.setting
    let held : FlowControl := {
      upstream := .asserted
      refresh := some (if setting = 1 then 1 else setting.toNat / 2)
      setting := setting
      slot := some (.hold setting (frameCheck [0x06, setting])) }
    let released : FlowControl := {
      upstream := .quiet, refresh := none, setting := setting, slot := some (.release (frameCheck [0x07])) }
    (∀ bytes f, s.uRx = .assembling bytes → judge .u bytes = .accepted (.forward f) → s.ingress.length < 8 →
      ∃ t, exec .forwardFrameAccepted s = .next t ∧ t.ingress = s.ingress ++ [f] ∧
        t.flow = if s.ingress.length + 1 = 6 ∧ s.flow.upstream = .quiet then held else s.flow) ∧
    (∀ f rest, s.intake = .free → s.ingress = f :: rest →
      ∃ t, exec (match f with
          | .sample _ => .intakeSampleFrame
          | .response _ | .notice _ => .intakePassingFrame) s = .next t ∧ t.ingress = rest ∧
        t.flow = if rest.length = 2 ∧ s.flow.upstream = .asserted then released else s.flow) ∧
    (∀ period, s.flow.upstream = .asserted → s.flow.refresh = some period →
      exec .refreshTimerExpiry s = .next { s with flow := held }) ∧
    ((s.flow.upstream = .quiet ∨ s.flow.refresh = none) → exec .refreshTimerExpiry s = .next s)

/-! ### The forward path -/

/-- Intake passes, discards or binds a frame by its kind, the mode of the part and the group's mode.
A passing frame (a Response, a Notice, a Sample frame while BOOTING or of a BYPASS group with no armed target met) goes
unchanged to the forward egress queue, or waits at intake while that queue is full; a waiting frame takes a place that is free
and stays otherwise. While RUNNING with no target met, a Sample frame of a BLOCK group is discarded and counted in BLOCKED,
and one of a PROCESS group is bound to the ACTIVE bank. -/
def Obligations.IntakeActsByGroupMode : Prop :=
  (∀ (s : State) (rest : List ForwardFrame), s.held = false →
     (∀ f : ForwardFrame, s.intake = .free → s.ingress = f :: rest →
       let c : Instr := match f with
         | .sample _ => .intakeSampleFrame
         | .response _ | .notice _ => .intakePassingFrame
       (∀ g, f = .sample g →
         s.mode = .booting ∨ (atTarget g s = false ∧ modeOf (activeBank s) g.group = .bypass)) →
       (s.egress.length < 8 →
         exec c s = .next { s with
           ingress := rest, egress := s.egress ++ [f], flow := flowAfterRemoval s.flow rest.length }) ∧
       (8 ≤ s.egress.length →
         exec c s = .next { s with
           ingress := rest, intake := .waiting f, flow := flowAfterRemoval s.flow rest.length })) ∧
     (∀ f, s.intake = .waiting f → s.egress.length < 8 →
       exec .waitingFramePlaced s = .next { s with egress := s.egress ++ [f], intake := .free }) ∧
     (∀ f, s.intake = .waiting f → 8 ≤ s.egress.length → exec .waitingFramePlaced s = .next s)) ∧
  (∀ (s : State) (f : SampleFrame) (rest : List ForwardFrame), s.held = false → s.intake = .free →
     s.ingress = .sample f :: rest → s.mode = .running → atTarget f s = false →
     (modeOf (activeBank s) f.group = .block →
       exec .intakeSampleFrame s = .next { s with
         ingress := rest
         flow := flowAfterRemoval s.flow rest.length
         counters := { s.counters with blocked := s.counters.blocked + 1 } }) ∧
     (modeOf (activeBank s) f.group = .process →
       exec .intakeSampleFrame s = .next { s with
         ingress := rest
         flow := flowAfterRemoval s.flow rest.length
         intake := .correcting
         stage := .bound f s.active }))

/-- The frame that carries the target of an armed commit takes the swap first.
A Sample frame taken while RUNNING that carries the target of a commit ARMED in mode AT swaps the banks first, COMMIT_DONE
SWAPPED naming the new ACTIVE bank (raised as CopyAndValidateComplete says), and the frame is then passed or held WAITING,
discarded or bound by the mode its group has in that bank. -/
def Obligations.TargetFrameSwapsBeforeItIsHandled : Prop :=
  ∀ (s : State) (f : SampleFrame) (rest : List ForwardFrame) (r : CommitRecord) (tag : Byte),
    s.held = false → s.intake = .free → s.ingress = .sample f :: rest → s.mode = .running → atTarget f s = true →
    s.commit = some r → r.origin = .request → r.tag = some tag →
    let swapped : State := raiseCompletion tag (.commitSwapped s.active.other)
      (afterSwap { s with ingress := rest, flow := flowAfterRemoval s.flow rest.length })
    (modeOf (shadowBank s) f.group = .bypass →
      (s.egress.length < 8 → exec .intakeSampleFrame s = .next { swapped with egress := s.egress ++ [.sample f] }) ∧
      (8 ≤ s.egress.length → exec .intakeSampleFrame s = .next { swapped with intake := .waiting (.sample f) })) ∧
    (modeOf (shadowBank s) f.group = .block →
      exec .intakeSampleFrame s =
        .next { swapped with counters := { s.counters with blocked := s.counters.blocked + 1 } }) ∧
    (modeOf (shadowBank s) f.group = .process →
      exec .intakeSampleFrame s = .next { swapped with intake := .correcting, stage := .bound f s.active.other })

/-- A bound frame is corrected by its bank; a gap is counted, reported and flagged.
CORRECTION_DONE on a bound frame that synchronises its tracker or is in order: the tracker takes its sequence, the slot
counters grow as OutputFrameCarriesSlotValues says, and the corrected frame is delivered, or the stage stalls while the
forward egress queue is full. At a distance d of 2 to 255 the group's gap counter grows by d - 1, stopping at 65535, the group
is reported to SEQUENCE, and the corrected frame carries the GAP flag, delivered or stalled. A commit ARMED in mode AT changes
none of it; delivery under one ARMED in mode NOW is in StalledOutputTakesFreePlace. -/
def Obligations.FrameIsCorrectedAndDelivered : Prop :=
  (∀ (s : State) (f : SampleFrame) (bank : BankName), s.held = false → s.stage = .bound f bank →
     (s.trackers[f.group] = .unsynced ∨ ∃ last, s.trackers[f.group] = .synced last ∧ f.sequence = last + 1) →
     let corrected : State := { s with
       trackers := s.trackers.set f.group (.synced f.sequence)
       slotCounts := countedSlots (bankNamed s bank) f s.slotCounts }
     (s.egress.length < 8 → (s.shadow = .armed → ∀ r, s.commit = some r → r.mode ≠ .now) →
       exec .correctionDone s = .next { corrected with
         egress := s.egress ++ [.sample (correctedFrame (bankNamed s bank) f false)], stage := .idle, intake := .free }) ∧
     (8 ≤ s.egress.length →
       exec .correctionDone s = .next { corrected with
         stage := .stalled (correctedFrame (bankNamed s bank) f false) bank })) ∧
  (∀ (s : State) (f : SampleFrame) (bank : BankName) (last : Byte), s.held = false → s.stage = .bound f bank →
     s.trackers[f.group] = .synced last → 2 ≤ (f.sequence - last).toNat →
     let counted : State := { reportSequence f.group { s with
         trackers := s.trackers.set f.group (.synced f.sequence)
         groupCounts := s.groupCounts.set f.group
           { gap := BitVec.ofNat 16 (min ((s.groupCounts[f.group]).gap.toNat + ((f.sequence - last).toNat - 1)) 65535)
             dup := (s.groupCounts[f.group]).dup } } with
       slotCounts := countedSlots (bankNamed s bank) f s.slotCounts }
     (s.egress.length < 8 → (s.shadow = .armed → ∀ r, s.commit = some r → r.mode ≠ .now) →
       exec .correctionDone s = .next { counted with
         egress := s.egress ++ [.sample (correctedFrame (bankNamed s bank) f true)], stage := .idle, intake := .free }) ∧
     (8 ≤ s.egress.length →
       exec .correctionDone s = .next { counted with stage := .stalled (correctedFrame (bankNamed s bank) f true) bank }))

/-- A duplicate is discarded and counted; a reported group is gathered by SEQUENCE.
CORRECTION_DONE on a bound frame that repeats the tracker's sequence discards it: DUPLICATES and the group's duplicate counter
grow, the group is reported, tracker and slot counters stay, with no commit ARMED or one in mode AT (for mode NOW see
StalledOutputTakesFreePlace). A reported group changes nothing when SEQUENCE is disabled; otherwise it joins the group mask,
and SEQUENCE, when IDLE, becomes PENDING without a place or forms its notice with the mask in a free place with nothing
pending. -/
def Obligations.DuplicateIsDiscardedAndReported : Prop :=
  (∀ (s : State) (f : SampleFrame) (bank : BankName), s.held = false → s.stage = .bound f bank →
     (s.shadow = .armed → ∀ r, s.commit = some r → r.mode ≠ .now) →
     s.trackers[f.group] = .synced f.sequence →
     exec .correctionDone s = .next (reportSequence f.group { s with
       stage := .idle
       intake := .free
       counters := { s.counters with duplicates := s.counters.duplicates + 1 }
       groupCounts := s.groupCounts.set f.group
         { gap := (s.groupCounts[f.group]).gap
           dup := BitVec.ofNat 16 (min ((s.groupCounts[f.group]).dup.toNat + 1) 65535) } })) ∧
  (∀ (s : State) (g : Fin 16),
     let added : Half := s.notices.accumulator ||| BitVec.ofNat 16 (2 ^ g.val)
     (s.notices.mask.getLsbD 2 = false → reportSequence g s = s) ∧
     (s.notices.mask.getLsbD 2 = true → s.notices.sequence ≠ .idle →
       reportSequence g s = { s with notices := { s.notices with accumulator := added } }) ∧
     (s.notices.mask.getLsbD 2 = true → s.notices.sequence = .idle → 4 ≤ s.localQ.length →
       reportSequence g s = { s with notices := { s.notices with accumulator := added, sequence := .pending } }) ∧
     (s.notices.mask.getLsbD 2 = true → s.notices.sequence = .idle → Roomy s →
       reportSequence g s = noticed 0 0x03 (halfBytes added)
         { s with notices := { s.notices with accumulator := 0, sequence := .queued } }))

/-- A stalled output takes a free place, and a commit NOW is swapped at that frame boundary.
STALLED_OUTPUT_PLACED moves the stalled frame to a free place of the forward egress queue and the stage is IDLE and the intake
FREE, also under a commit ARMED in mode AT; with no place it changes nothing. When a commit is ARMED in mode NOW, the swap
follows at once with its effects: there, when CORRECTION_DONE delivers a frame, in order or after a gap, and when it discards
a duplicate; COMMIT_DONE SWAPPED carries the commit's tag and the new ACTIVE bank (raised as CopyAndValidateComplete says).
Whether a gap or a duplicate is reported to SEQUENCE before the swap or after it is left open (log 14). -/
def Obligations.StalledOutputTakesFreePlace : Prop :=
  (∀ (s : State) (out : SampleFrame) (bank : BankName), s.held = false → s.stage = .stalled out bank →
     (s.egress.length < 8 → (s.shadow = .armed → ∀ r, s.commit = some r → r.mode ≠ .now) →
       exec .stalledOutputPlaced s =
         .next { s with egress := s.egress ++ [.sample out], stage := .idle, intake := .free }) ∧
     (8 ≤ s.egress.length → exec .stalledOutputPlaced s = .next s)) ∧
  (∀ (s : State) (bank : BankName) (r : CommitRecord) (tag : Byte), s.held = false →
     s.shadow = .armed → s.commit = some r → r.mode = .now → r.origin = .request → r.tag = some tag →
     let swapped (t : State) : State := raiseCompletion tag (.commitSwapped s.active.other) (afterSwap t)
     let tracked (f : SampleFrame) : State := { s with trackers := s.trackers.set f.group (.synced f.sequence) }
     let delivered (f : SampleFrame) (gap : Bool) (t : State) : State := { t with
       slotCounts := countedSlots (bankNamed s bank) f s.slotCounts
       egress := s.egress ++ [.sample (correctedFrame (bankNamed s bank) f gap)]
       stage := .idle
       intake := .free }
     (∀ out, s.stage = .stalled out bank → s.egress.length < 8 →
       exec .stalledOutputPlaced s =
         .next (swapped { s with egress := s.egress ++ [.sample out], stage := .idle, intake := .free })) ∧
     (∀ f, s.stage = .bound f bank → s.egress.length < 8 →
       (s.trackers[f.group] = .unsynced ∨ ∃ last, s.trackers[f.group] = .synced last ∧ f.sequence = last + 1) →
       exec .correctionDone s = .next (swapped (delivered f false (tracked f)))) ∧
     (∀ f last, s.stage = .bound f bank → s.egress.length < 8 → s.trackers[f.group] = .synced last →
       2 ≤ (f.sequence - last).toNat →
       let missed : State := { tracked f with
         groupCounts := s.groupCounts.set f.group
           { gap := BitVec.ofNat 16 (min ((s.groupCounts[f.group]).gap.toNat + ((f.sequence - last).toNat - 1)) 65535)
             dup := (s.groupCounts[f.group]).dup } }
       exec .correctionDone s = .next (swapped (delivered f true (reportSequence f.group missed))) ∨
       exec .correctionDone s = .next (reportSequence f.group (swapped (delivered f true missed)))) ∧
     (∀ f, s.stage = .bound f bank → s.trackers[f.group] = .synced f.sequence →
       let repeated : State := { s with
         stage := .idle
         intake := .free
         counters := { s.counters with duplicates := s.counters.duplicates + 1 }
         groupCounts := s.groupCounts.set f.group
           { gap := (s.groupCounts[f.group]).gap
             dup := BitVec.ofNat 16 (min ((s.groupCounts[f.group]).dup.toNat + 1) 65535) } }
       exec .correctionDone s = .next (swapped (reportSequence f.group repeated)) ∨
       exec .correctionDone s = .next (reportSequence f.group (swapped repeated))))

/-- The output frame holds the output group, the flags that arose and the value of each slot; the slot counters follow.
The corrected frame has the output group and as many samples as the emit count of the bank it is bound to, the sequence it
came with, a fresh check, CORRECTED set, every received flag kept, and GAP, RANGE, SAT and SHORT set where they arose. The
sample at an output position is the value of the slot with that position. A slot gives its raw sample under PASS, its curve's
value under CORRECT, and -32768 with SHORT when its source is absent. The SAT and the RANGE counter of a slot of the frame's
group grow by 1 when SAT or RANGE arose in that slot, stopping at 65535; every other slot counter stays. -/
def Obligations.OutputFrameCarriesSlotValues : Prop :=
  (∀ (b : Bank) (f : SampleFrame) (gap : Bool),
     let out := correctedFrame b f gap
     let entry : GroupEntry := b.groups[f.group]
     let slots := groupSlots b f.group
     out.group = entry.out ∧ out.sequence = f.sequence ∧ out.samples.length = entry.emit.val ∧
     out.check = frameCheck out.body ∧
     out.flags.getLsbD 0 = true ∧
     (out.flags.getLsbD 1 = true ↔ f.flags.getLsbD 1 = true ∨ gap = true) ∧
     (out.flags.getLsbD 2 = true ↔ f.flags.getLsbD 2 = true ∨ ∃ se ∈ slots, (slotResult b f se.2).range = true) ∧
     (out.flags.getLsbD 3 = true ↔ f.flags.getLsbD 3 = true ∨ ∃ se ∈ slots, (slotResult b f se.2).sat = true) ∧
     (out.flags.getLsbD 4 = true ↔ f.flags.getLsbD 4 = true ∨ ∃ se ∈ slots, f.samples.length ≤ se.2.pos.val) ∧
     (∀ i, 5 ≤ i → out.flags.getLsbD i = f.flags.getLsbD i) ∧
     (∀ q, q < entry.emit.val → ∀ se ∈ slots, se.2.out.val = q → (∀ te ∈ slots, te.2.out.val = q → te = se) →
       out.samples[q]? = some (slotResult b f se.2).value)) ∧
  (∀ (b : Bank) (f : SampleFrame) (e : MapEntry),
     (f.samples.length ≤ e.pos.val →
       slotResult b f e = { value := 0x8000, range := false, sat := false, short := true }) ∧
     (∀ raw, f.samples[e.pos.val]? = some raw → e.action = .pass →
       slotResult b f e = { value := raw, range := false, sat := false, short := false }) ∧
     (∀ raw c, f.samples[e.pos.val]? = some raw → e.action = .correct → b.curves[e.curve] = some c →
       let r := evalCurve (curvePoints b c) c.policy raw
       slotResult b f e = { value := r.value, range := r.range, sat := r.sat, short := false })) ∧
  (∀ (b : Bank) (f : SampleFrame) (counts : Vector SlotCounters 64) (s : Fin 64),
     let up (n : Half) : Half := BitVec.ofNat 16 (min (n.toNat + 1) 65535)
     (∀ e, b.slots[s] = some e → e.group = f.group →
       (countedSlots b f counts)[s] = {
         sat := if (slotResult b f e).sat = true then up (counts[s]).sat else (counts[s]).sat
         range := if (slotResult b f e).range = true then up (counts[s]).range else (counts[s]).range }) ∧
     (∀ e, b.slots[s] = some e → e.group ≠ f.group → (countedSlots b f counts)[s] = counts[s]) ∧
     (b.slots[s] = none → (countedSlots b f counts)[s] = counts[s]))

/-- Inside its x range an ordered curve is interpolated in the lowest segment that holds x, rounded half away from zero.
Within the x range of an ordered curve of at least two points, the value is y of the lowest segment that holds x plus the
quotient N / D, N the product of the exact differences, D the positive x difference, rounded to the nearest integer with a tie
away from zero. It lies between the two y values of the segment, without RANGE or SAT, under every end policy. At a breakpoint
the value is its y. -/
def Obligations.CurveInterpolatesInRange : Prop :=
  (∀ (points : List Point) (policy : EndPolicy) (raw : Half) (first last : Point), 2 ≤ points.length → ordered points = true →
     points.head? = some first → points.getLast? = some last → first.x.toInt ≤ raw.toInt → raw.toInt ≤ last.x.toInt →
     ∃ (i : Nat) (p q : Point), points[i]? = some p ∧ points[i + 1]? = some q ∧
       p.x.toInt ≤ raw.toInt ∧ raw.toInt ≤ q.x.toInt ∧
       (∀ j u v, j < i → points[j]? = some u → points[j + 1]? = some v → v.x.toInt < raw.toInt) ∧
       let r := evalCurve points policy raw
       let n := (q.y.toInt - p.y.toInt) * (raw.toInt - p.x.toInt)
       let d := q.x.toInt - p.x.toInt
       let k := r.value.toInt - p.y.toInt
       0 < d ∧ r.range = false ∧ r.sat = false ∧
       |2 * (k * d - n)| ≤ d ∧ (2 * (k * d - n) = d → 0 ≤ n) ∧ (2 * (k * d - n) = -d → n ≤ 0) ∧
       min p.y.toInt q.y.toInt ≤ r.value.toInt ∧ r.value.toInt ≤ max p.y.toInt q.y.toInt) ∧
  (∀ (points : List Point) (policy : EndPolicy) (i : Nat) (p : Point), 2 ≤ points.length → ordered points = true →
     points[i]? = some p → evalCurve points policy p.x = { value := p.y, range := false, sat := false })

/-- Outside its x range an ordered curve gives what its end policy says, with RANGE.
Below the first or above the last point of an ordered curve: CLAMP gives the y of that point and MARK gives -32768, without
SAT; EXTEND continues the end segment with the same rounding, and a sum outside -32768 to 32767 is clipped to the bound it
passes, with SAT, while a sum inside stands without SAT. RANGE is raised in every case. -/
def Obligations.CurveAppliesEndPolicy : Prop :=
  ∀ (points : List Point) (raw : Half) (edge p q : Point), 2 ≤ points.length → ordered points = true →
    ((points.head? = some edge ∧ raw.toInt < edge.x.toInt ∧ points[0]? = some p ∧ points[1]? = some q) ∨
      (points.getLast? = some edge ∧ edge.x.toInt < raw.toInt ∧ points[points.length - 2]? = some p ∧
        points[points.length - 1]? = some q)) →
    evalCurve points .clamp raw = { value := edge.y, range := true, sat := false } ∧
    evalCurve points .mark raw = { value := 0x8000, range := true, sat := false } ∧
    ∃ k : Int,
      let n := (q.y.toInt - p.y.toInt) * (raw.toInt - p.x.toInt)
      let d := q.x.toInt - p.x.toInt
      let sum := p.y.toInt + k
      let r := evalCurve points .extend raw
      |2 * (k * d - n)| ≤ d ∧ (2 * (k * d - n) = d → 0 ≤ n) ∧ (2 * (k * d - n) = -d → n ≤ 0) ∧
      r.range = true ∧
      (sum < -32768 → r.value.toInt = -32768 ∧ r.sat = true) ∧
      (32767 < sum → r.value.toInt = 32767 ∧ r.sat = true) ∧
      (-32768 ≤ sum → sum ≤ 32767 → r.value.toInt = sum ∧ r.sat = false)

/-- Forward frames leave in the order in which they were accepted.
Taken as one line (forward egress queue, the frame at intake or in the stage, ingress queue), the forward frames change in one
step only so: the first leaves, one joins at the end, the one at intake is discarded or is replaced in its place by a Sample
frame of the same sequence, or nothing. The exceptions are a hard reset and the beginning of a restart, which empties the
line. -/
def Obligations.ForwardOrderIsKept : Prop :=
  ∀ (c : Instr) (s t : State), s.held = false → StageFollowsIntake s → (∀ cause, c ≠ .hardReset cause) →
    exec c s = .next t →
    LineMove s.egress.length (forwardLine s) (forwardLine t) ∨ (c = .dFrameSent ∧ forwardLine t = [])

/-! ### The transmitters, the restart and the commit's end -/

/-- Port D serves the queue not served last, and the start of a queued notice is reported.
READY and FREE, D_FRAME_START starts the head of the forward egress queue or of the local queue: of the one that holds a
frame, and of the one not served last when both do; D_FORWARDED or D_LOCAL grows. HELD or SENDING, or with both queues empty,
nothing starts. The start of a QUEUED unsolicited notice returns its kind to IDLE, or to PENDING when the kind is enabled and
has gathered events; any other local frame leaves the notice unit alone. -/
def Obligations.DArbiterAlternates : Prop :=
  (∀ s : State, s.held = false →
     (∀ f rest, s.dTx.send = .ready → s.dTx.hold = .free → s.egress = f :: rest →
       (s.localQ = [] ∨ s.dTx.lastServed = .ofLocal) →
       exec .dFrameStart s = .next { s with
         egress := rest
         counters := { s.counters with dForwarded := s.counters.dForwarded + 1 }
         dTx := { send := .sending (.forward f), hold := .free, lastServed := .forward, lane := .frame } }) ∧
     (∀ f rest, s.dTx.send = .ready → s.dTx.hold = .free → s.localQ = f :: rest →
       (s.egress = [] ∨ s.dTx.lastServed = .forward) →
       exec .dFrameStart s = .next { s with
         localQ := rest
         counters := { s.counters with dLocal := s.counters.dLocal + 1 }
         dTx := { send := .sending (.ofLocal f), hold := .free, lastServed := .ofLocal, lane := .frame }
         notices := s.notices.frameStarted f }) ∧
     (∀ duration, s.dTx.hold = .held duration → exec .dFrameStart s = .next s) ∧
     (∀ f, s.dTx.send = .sending f → exec .dFrameStart s = .next s) ∧
     (s.egress = [] → s.localQ = [] → exec .dFrameStart s = .next s)) ∧
  (∀ (n : NoticeUnit),
     (∀ f : ResponseFrame, n.frameStarted (.response f) = n) ∧
     (∀ f : NoticeFrame, 0x10 ≤ f.code.toNat → n.frameStarted (.notice f) = n) ∧
     (∀ f : NoticeFrame, f.code = 0x01 → n.bootDone = .queued → n.frameStarted (.notice f) = { n with bootDone := .idle }) ∧
     (∀ f : NoticeFrame, f.code = 0x02 → n.overrun = .queued →
       n.frameStarted (.notice f) =
         if n.mask.getLsbD 1 = true ∧ n.overrunSet = true then { n with overrun := .pending, overrunSet := false }
         else { n with overrun := .idle }) ∧
     (∀ f : NoticeFrame, f.code = 0x03 → n.sequence = .queued →
       n.frameStarted (.notice f) =
         if n.mask.getLsbD 2 = true ∧ n.accumulator ≠ 0 then { n with sequence := .pending }
         else { n with sequence := .idle }))

/-- Port U starts its link-control frame first, and both transmitters end their frames.
READY, U_FRAME_START starts the frame of the link-control slot, which is then empty, else the head of the reverse forward
queue, else nothing; SENDING, it starts nothing. D_FRAME_SENT and U_FRAME_SENT make their transmitter READY with its lane
idle, but for the response a RESTARTING engine waits for; a READY transmitter has no frame to end (log 3). -/
def Obligations.TransmissionsStartAndEnd : Prop :=
  (∀ s : State, s.held = false →
     (∀ f, s.dTx.send = .sending f → (isRestartResponse f = false ∨ ∀ form, s.engine ≠ .restarting form) →
       exec .dFrameSent s = .next { s with dTx := { s.dTx with send := .ready, lane := .idle } }) ∧
     (∀ f, s.uTx.send = .sending f →
       exec .uFrameSent s = .next { s with uTx := { send := .ready, lane := .idle } } ∧ exec .uFrameStart s = .next s) ∧
     (s.dTx.send = .ready → exec .dFrameSent s = .next s) ∧
     (s.uTx.send = .ready → exec .uFrameSent s = .next s)) ∧
  (∀ s : State, s.held = false → s.uTx.send = .ready →
     (∀ f, s.flow.slot = some f →
       exec .uFrameStart s = .next { s with
         flow := { s.flow with slot := none }, uTx := { send := .sending (.link f), lane := .frame } }) ∧
     (∀ f rest, s.flow.slot = none → s.reverseQ = f :: rest →
       exec .uFrameStart s = .next { s with reverseQ := rest, uTx := { send := .sending (.reverse f), lane := .frame } }) ∧
     (s.flow.slot = none → s.reverseQ = [] → exec .uFrameStart s = .next s))

/-- A RESTART answers OK first, and the restart begins when that response has been sent.
RESTART taken while RUNNING answers OK at once, or holds that answer, the form is kept, and nothing else of the part changes.
D_FRAME_SENT of the OK response a RESTARTING engine waits for begins the restart: every item takes its value of table 10.4.1,
the mask, the hold duration setting, the address, the role and the content of the banks are kept (but a shadow that was
COPYING or LOADING is empty), a scan starts, and KEEP goes on RUNNING while RELOAD boots. A frame that port U is sending is
cut off with INVALID unless its END had been sent, which is free (log 13). What an ended store operation leaves in the store
is free within R183 (log 4). -/
def Obligations.RestartAnswersThenBegins : Prop :=
  (∀ (s : State) (f : RequestFrame) (rest : List ReverseFrame) (form : RestartForm), Takes 0x04 f rest s →
     s.mode = .running →
     f.params = [match form with
       | .keep => 0x00
       | .reload => 0x01] →
     let response := buildResponse (byteOf s.address) f.tag 0x04 0x00 []
     exec .restart s = .next (
       if Roomy s then { s with requestQ := rest, localQ := s.localQ ++ [.response response], engine := .restarting form }
       else { s with
         requestQ := rest, engine := .holding { response := some response, successor := none, restart := some form } })) ∧
  (∀ (s : State) (f : DFrame) (form : RestartForm), s.held = false → s.engine = .restarting form →
     s.dTx.send = .sending f → isRestartResponse f = true →
     ∃ (nv : NvStore) (bankA bankB : Bank), exec .dFrameSent s = .next {
       s with
       mode := match form with
         | .keep => .running
         | .reload => .booting
       boot := match form with
         | .keep => none
         | .reload => some { phase := .scan, candidate := none, tried := [] }
       uRx := .idle
       dRx := .idle
       ingress := []
       intake := .free
       stage := .idle
       trackers := Vector.replicate 16 .unsynced
       slotCounts := Vector.replicate 64 { sat := 0, range := 0 }
       groupCounts := Vector.replicate 16 { gap := 0, dup := 0 }
       egress := []
       localQ := []
       dTx := { send := .ready, hold := .free, lastServed := .ofLocal, lane := .idle }
       uTx := { send := .ready, lane := if s.uTx.send = .ready ∨ Config.endSent s.freeCount = true then .idle else .cut }
       flow := { upstream := .quiet, refresh := none, setting := s.flow.setting, slot := none }
       counters := {
         uAccepted := 0, uCheckErr := 0, uMalformed := 0, uOverrun := 0, blocked := 0, duplicates := 0, dForwarded := 0,
         dLocal := 0, rAccepted := 0, rBad := 0, rOverrun := 0, reqDropped := 0 }
       requestQ := []
       reverseQ := []
       engine := .idle
       notices := {
         mask := s.notices.mask, completions := Vector.replicate 7 { pending := none, follower := none }, bootDone := .idle,
         bootOutcome := none, overrun := .idle, overrunSet := false, sequence := .idle, accumulator := 0 }
       bankA := bankA
       bankB := bankB
       shadow := .editable
       commit := none
       store := { op := some .scan, table := s.store.table, view := s.store.view, buffer := none }
       nv := nv
       freeCount := s.freeCount + 1 } ∧
     Interrupted s.store.op s.nv nv ∧
     (s.active = .a → bankA = s.bankA ∧
       bankB = match s.shadow with
         | .copying _ | .loading => Bank.empty
         | .editable | .validating _ _ | .armed => s.bankB) ∧
     (s.active = .b → bankB = s.bankB ∧
       bankA = match s.shadow with
         | .copying _ | .loading => Bank.empty
         | .editable | .validating _ _ | .armed => s.bankA))

/-- A commit ends EXPIRED by its timer, or CANCELLED by a request.
COMMIT_TIMER_EXPIRY on an ARMED commit whose timer runs, and CANCEL_COMMIT on a commit that is ARMED or in its test, make the
shadow EDITABLE with its content as it was, drop the record, and raise COMMIT_DONE EXPIRED or CANCELLED with the COMMIT's tag
(as CopyAndValidateComplete says); CANCEL_COMMIT answers OK. A stopped timer does not expire. Which of the answer and the
notice of a CANCEL_COMMIT is offered to the local queue first is open (log 5). -/
def Obligations.CommitExpiresOrIsCancelled : Prop :=
  (∀ (s : State) (r : CommitRecord), s.held = false → s.shadow = .armed → s.commit = some r →
     (∀ tag, r.timer = true → r.origin = .request → r.tag = some tag →
       exec .commitTimerExpiry s =
         .next (raiseCompletion tag .commitExpired { s with shadow := .editable, commit := none })) ∧
     (r.timer = false → exec .commitTimerExpiry s = .next s)) ∧
  (∀ (s : State) (f : RequestFrame) (rest : List ReverseFrame) (r : CommitRecord) (tag : Byte), Takes 0x24 f rest s →
     s.mode = .running → f.params = [] → (s.shadow = .armed ∨ ∃ t, s.shadow = .validating .commit t) → s.commit = some r →
     r.origin = .request → r.tag = some tag →
     let ended : State := { s with requestQ := rest, shadow := .editable, commit := none, freeCount := s.freeCount + 1 }
     exec .cancelCommit s = .next (answeredWith f .ok [] (raiseCompletion tag .commitCancelled ended)) ∨
     exec .cancelCommit s = .next (raiseCompletion tag .commitCancelled (answeredWith f .ok [] ended)))

/-! ### The request engine -/

/-- An Enumerate gives an address, or finds none left, or finds the part addressed.
ENUMERATE_TAKEN, whatever the mode. An unaddressed part and a next address n of 1 to 30: the address becomes n, the answer is
OK with the identity record that holds n, from source n, and a successor with n + 1 and the same tag goes to the reverse
forward queue. Next address 31: the address stays 0, the answer is NO_ADDRESS without data and the frame is passed on
unchanged. An addressed part: the answer is STATE from its own address without data, and nothing is forwarded. What finds no
place is held by the engine. -/
def Obligations.EnumerateGivesAddress : Prop :=
  ∀ (s : State) (f : EnumFrame) (rest : List ReverseFrame), s.held = false → s.engine = .idle →
    s.requestQ = .enumerate f :: rest →
    let placed (response : ResponseFrame) (successor : Option EnumFrame) (t : State) : State := { t with
      requestQ := rest
      localQ := if Roomy s then s.localQ ++ [.response response] else s.localQ
      reverseQ := match successor with
        | some e => if s.reverseQ.length < 8 then s.reverseQ ++ [.enumerate e] else s.reverseQ
        | none => s.reverseQ
      engine :=
        if Roomy s ∧ (successor = none ∨ s.reverseQ.length < 8) then .idle
        else .holding {
          response := if Roomy s then none else some response
          successor := if s.reverseQ.length < 8 then none else successor
          restart := none } }
    (∀ (n : Fin 31) (m : Fin 32), s.address = 0 → 1 ≤ n.val → f.next.val = n.val → m.val = n.val + 1 →
      let identity : List Byte :=
        [0x16, 0x16, 0x01, 16, 16, 64, 32, 0x01, 0x00, 4, byteOf n, if s.mode = .booting then 0x00 else 0x01]
      exec .enumerateTaken s = .next (placed (buildResponse (byteOf n) f.tag 0x00 0x00 identity) (some (buildEnum m f.tag))
        { s with address := n })) ∧
    (s.address = 0 → f.next.val = 31 →
      exec .enumerateTaken s = .next (placed (buildResponse 0x00 f.tag 0x00 0x0B []) (some f) s)) ∧
    (s.address ≠ 0 →
      exec .enumerateTaken s = .next (placed (buildResponse (byteOf s.address) f.tag 0x00 0x03 []) none s))

/-- The engine holds a response or a successor that finds no place, and takes no entry meanwhile.
HELD_RESPONSE_ENTERS moves the held response into a local queue with a place that no pending notice is to take,
SUCCESSOR_ENTERS the held successor into a reverse forward queue with a place, in either order; the engine is IDLE when
nothing is held, or RESTARTING after the OK response of a RESTART. Without a place nothing happens, and while a notice is
pending no held response enters, a free place being for the notice (log 7). An engine that is HOLDING or RESTARTING takes no
request, no Enumerate and no unknown code. -/
def Obligations.EngineHoldsWhatFindsNoPlace : Prop :=
  (∀ (s : State) (h : Held), s.held = false → s.engine = .holding h →
     (∀ r, h.response = some r → Roomy s →
       exec .heldResponseEnters s = .next { s with
         localQ := s.localQ ++ [.response r]
         engine := match h.successor, h.restart with
           | some e, form => .holding { response := none, successor := some e, restart := form }
           | none, some form => .restarting form
           | none, none => .idle }) ∧
     (∀ e, h.successor = some e → h.restart = none → s.reverseQ.length < 8 →
       exec .successorEnters s = .next { s with
         reverseQ := s.reverseQ ++ [.enumerate e]
         engine := match h.response with
           | some r => .holding { response := some r, successor := none, restart := none }
           | none => .idle }) ∧
     ((4 ≤ s.localQ.length ∨ s.notices.firstPending ≠ none) → exec .heldResponseEnters s = .next s) ∧
     (8 ≤ s.reverseQ.length → exec .successorEnters s = .next s)) ∧
  (∀ (s : State) (c : Instr), s.engine ≠ .idle →
     (c = .enumerateTaken ∨ c = .badCode ∨ ∃ code, commandOf code = some c) → exec c s = .next s)

/-- A request that is refused changes nothing but its answer.
For every request code: when the answer to the request just taken is neither OK nor ACCEPTED, the state differs from the one
before in the request queue and that answer alone, whether the answer entered the local queue or is held by the engine. -/
def Obligations.RefusedRequestChangesOnlyItsAnswer : Prop :=
  ∀ (s t : State) (c : Instr) (code : Byte) (f : RequestFrame) (rest : List ReverseFrame) (r : ResponseFrame),
    Takes code f rest s → commandOf code = some c → exec c s = .next t → r.result ≠ 0x00 → r.result ≠ 0x01 →
    (Roomy s → t.localQ = s.localQ ++ [.response r] →
      t = { s with requestQ := rest, localQ := s.localQ ++ [.response r] }) ∧
    (∀ h, t.engine = .holding h → h.response = some r →
      t = { s with requestQ := rest, engine := .holding { response := some r, successor := none, restart := none } })

/-- Unknown codes, wrong lengths and requests in BOOTING are refused first.
An unknown code is answered BAD_CODE under the code as received. A parameter length that the code does not accept is answered
BAD_LENGTH. While BOOTING, a request of an accepted length is answered STATE, but for IDENTIFY, READ_STATUS, STORE_DIRECTORY
and reads of the ACTIVE role. The result codes of all answers are those of R75. -/
def Obligations.CodeLengthAndModeAreJudgedFirst : Prop :=
  (∀ (s : State) (f : RequestFrame) (rest : List ReverseFrame), Takes f.code f rest s →
     (commandOf f.code = none → exec .badCode s = .next (answeredWith f .badCode [] { s with requestQ := rest })) ∧
     (∀ c, commandOf f.code = some c → ¬ acceptedLength f.code f.params.length →
       exec c s = .next (answeredWith f .badLength [] { s with requestQ := rest }))) ∧
  (∀ (s : State) (f : RequestFrame) (rest : List ReverseFrame) (c : Instr), Takes f.code f rest s →
     commandOf f.code = some c → acceptedLength f.code f.params.length → s.mode = .booting →
     (f.code ∉ [(0x01 : Byte), 0x02, 0x14, 0x16, 0x30] ∨ (f.code ∈ [(0x14 : Byte), 0x16] ∧ f.params.head? ≠ some 0x00)) →
     exec c s = .next (answeredWith f .state [] { s with requestQ := rest })) ∧
  ([Result.ok, .accepted, .busy, .state, .badCode, .badLength, .badParam, .protected_, .empty, .checkFail, .exhausted, .noAddress,
      .fault].map Result.code =
    [0x00, 0x01, 0x02, 0x03, 0x04, 0x05, 0x06, 0x07, 0x08, 0x09, 0x0A, 0x0B, 0x0C])

/-- A parameter out of its range is answered BAD_PARAM, whatever the owner's state.
While RUNNING, for each request with parameters and for each of its fields, a value outside the range of the field is answered
BAD_PARAM, for every parameter list of an accepted length, whatever the shadow and the store do. -/
def Obligations.ParametersOutOfRangeAreRefused : Prop :=
  ∀ (s : State) (f : RequestFrame) (rest : List ReverseFrame), Takes f.code f rest s → s.mode = .running →
    let refused : Host.Outcome State Fault Refusal := .next (answeredWith f .badParam [] { s with requestQ := rest })
    (∀ duration mask, f.code = 0x03 → f.params = [duration, mask] → (duration = 0 ∨ 8 ≤ mask.toNat) → exec .setLink s = refused) ∧
    (∀ form, f.code = 0x04 → f.params = [form] → 2 ≤ form.toNat → exec .restart s = refused) ∧
    (∀ group mode out, f.code = 0x10 → f.params = [group, mode, out] →
      (16 ≤ group.toNat ∨ 3 ≤ mode.toNat ∨ 16 ≤ out.toNat) → exec .writeGroup s = refused) ∧
    (∀ slot used group pos action curve out, f.code = 0x11 → f.params = [slot, used, group, pos, action, curve, out] →
      (64 ≤ slot.toNat ∨ 2 ≤ used.toNat ∨
        (used = 1 ∧ (16 ≤ group.toNat ∨ 16 ≤ pos.toNat ∨ 2 ≤ action.toNat ∨ 32 ≤ curve.toNat ∨ 16 ≤ out.toNat))) →
      exec .writeMap s = refused) ∧
    (∀ curve defined start count policy, f.code = 0x12 → f.params = [curve, defined, start, count, policy] →
      (32 ≤ curve.toNat ∨ 2 ≤ defined.toNat ∨
        (defined = 1 ∧ (count.toNat < 2 ∨ 16 < count.toNat ∨ 3 ≤ policy.toNat ∨ 256 < start.toNat + count.toNat))) →
      exec .writeCurve s = refused) ∧
    (∀ start points n, f.code = 0x13 → f.params = start :: points → points.length = 4 * n → 1 ≤ n → n ≤ 15 →
      256 < start.toNat + n → exec .writePoints s = refused) ∧
    (∀ role table first count size most, f.code = 0x14 → f.params = [role, table, first, count] →
      (table, size, most) ∈ [((0x00 : Byte), 16, 16), (0x01, 64, 10), (0x02, 32, 16), (0x03, 256, 16)] →
      (2 ≤ role.toNat ∨ count = 0 ∨ most < count.toNat ∨ size < first.toNat + count.toNat) → exec .readTable s = refused) ∧
    (∀ role table first count, f.code = 0x14 → f.params = [role, table, first, count] → 4 ≤ table.toNat →
      exec .readTable s = refused) ∧
    (∀ set first count clear, f.code = 0x15 → f.params = [set, first, count, clear] →
      (2 ≤ set.toNat ∨ 2 ≤ clear.toNat ∨ count = 0 ∨
        (set = 0 ∧ (16 < count.toNat ∨ 64 < first.toNat + count.toNat)) ∨
        (set = 1 ∧ (10 < count.toNat ∨ 16 < first.toNat + count.toNat))) → exec .readCounters s = refused) ∧
    (∀ (role curve : Byte) (values : List Half), f.code = 0x16 → f.params = [role, curve] ++ values.flatMap halfBytes →
      1 ≤ values.length → values.length ≤ 16 → (2 ≤ role.toNat ∨ 32 ≤ curve.toNat) → exec .evaluate s = refused) ∧
    (∀ mode group sequence hi lo, f.code = 0x23 → f.params = [mode, group, sequence, hi, lo] →
      (2 ≤ mode.toNat ∨ (mode = 1 ∧ 16 ≤ group.toNat)) → exec .commit s = refused) ∧
    (∀ source slot label, f.code = 0x31 → f.params = source :: slot :: label → label.length = 8 →
      (2 ≤ source.toNat ∨ 4 ≤ slot.toNat) → exec .storeSave s = refused) ∧
    (∀ slot, f.code = 0x32 → f.params = [slot] → 4 ≤ slot.toNat → exec .storeLoad s = refused) ∧
    (∀ slot, f.code = 0x33 → f.params = [slot] → 4 ≤ slot.toNat → exec .storeErase s = refused) ∧
    (∀ boot fallback, f.code = 0x34 → f.params = [boot, fallback] →
      ((4 ≤ boot.toNat ∧ boot ≠ 0xFF) ∨ 2 ≤ fallback.toNat) → exec .storeSetBoot s = refused) ∧
    (∀ mask, f.code = 0x35 → f.params = [mask] → 16 ≤ mask.toNat → exec .storeProtect s = refused)

/-- IDENTIFY, READ_STATUS and STORE_DIRECTORY answer with the record of the moment.
In every mode, shadow state and store state the three requests, without parameters, answer OK with the identity record, the
status record and the directory record, each byte and code as R80, R81 and R85 list it for what the state holds at that
moment, and change nothing else. -/
def Obligations.RecordsAreReadInEveryState : Prop :=
  ∀ (s : State) (f : RequestFrame) (rest : List ReverseFrame), f.params = [] →
    let taken : State := { s with requestQ := rest }
    let mode : Byte := if s.mode = .booting then 0x00 else 0x01
    let shadowAndPurpose : List Byte := match s.shadow with
      | .editable => [0x00, 0x00]
      | .copying _ => [0x01, 0x00]
      | .loading => [0x02, 0x00]
      | .validating .validate _ => [0x03, 0x01]
      | .validating .commit _ => [0x03, 0x02]
      | .validating .boot _ => [0x03, 0x03]
      | .armed => [0x04, 0x00]
    let commit : List Byte := match s.commit with
      | none => [0x00, 0x00, 0x00, 0x00, 0x00]
      | some r =>
        [if r.origin = .request then 0x01 else 0x02] ++
          (match r.mode with
            | .now => [0x00, 0x00, 0x00]
            | .atFrame group sequence => [0x01, byteOf group, sequence]) ++
          [if r.timer = true then 0x01 else 0x00]
    let storeOp : Byte := match s.store.op with
      | none => 0x00
      | some .scan => 0x01
      | some (.save _ _ _ _) => 0x02
      | some (.load _ _) => 0x03
      | some (.erase _ _) => 0x04
      | some (.dirWrite _ _ _ _) => 0x05
    let slotView (i : Fin 4) : List Byte := match s.store.table[i] with
      | .empty => 0x00 :: List.replicate 14 0x00
      | .incomplete => 0x01 :: List.replicate 14 0x00
      | .valid info => [0x02] ++ wordBytes info.generation ++ info.label.toList ++ halfBytes info.length
      | .damaged info => [0x03] ++ wordBytes info.generation ++ info.label.toList ++ halfBytes info.length
    (Takes 0x01 f rest s →
      exec .identify s =
        .next (answeredWith f .ok [0x16, 0x16, 0x01, 16, 16, 64, 32, 0x01, 0x00, 4, byteOf s.address, mode] taken)) ∧
    (Takes 0x02 f rest s →
      exec .readStatus s =
        .next (answeredWith f .ok
          ([mode, byteOf s.address, if s.active = .a then 0x00 else 0x01] ++ shadowAndPurpose ++ commit ++
            [storeOp, if s.dTx.hold = .free then 0x00 else 0x01, if s.flow.upstream = .asserted then 0x01 else 0x00,
              s.flow.setting, s.notices.mask.setWidth 8, byteOf s.ingress.length] ++
            wordBytes s.counters.uAccepted ++ wordBytes s.counters.uCheckErr ++ wordBytes s.counters.uMalformed ++
            wordBytes s.counters.uOverrun ++ wordBytes s.counters.blocked ++ wordBytes s.counters.duplicates ++
            wordBytes s.counters.dForwarded ++ wordBytes s.counters.dLocal ++ wordBytes s.counters.rAccepted ++
            wordBytes s.counters.rBad ++ wordBytes s.counters.rOverrun ++ wordBytes s.counters.reqDropped) taken)) ∧
    (Takes 0x30 f rest s →
      exec .storeDirectory s =
        .next (answeredWith f .ok
          ([storeOp, match s.store.view.setting.boot with
              | some i => byteOf i
              | none => 0xFF,
            if s.store.view.setting.fallback = true then 0x01 else 0x00, s.store.view.setting.mask.setWidth 8] ++
            slotView 0 ++ slotView 1 ++ slotView 2 ++ slotView 3) taken))

/-- SET_LINK replaces duration and mask together; RELEASE_ADDRESS gives up the address.
SET_LINK in range while RUNNING replaces the hold duration setting and the enable mask and answers OK; a refresh period that
runs is kept. A kind that the new mask disables leaves the pending set with its record cleared, or stays QUEUED with its
record cleared; other kinds and completion notices do not change. RELEASE_ADDRESS while RUNNING makes the address 0 and
answers OK from source 0 with the former address. -/
def Obligations.SetLinkAndReleaseAddressAct : Prop :=
  (∀ (s : State) (f : RequestFrame) (rest : List ReverseFrame) (duration mask : Byte), Takes 0x03 f rest s →
     s.mode = .running → f.params = [duration, mask] → duration ≠ 0 → mask.toNat < 8 →
     exec .setLink s = .next (answeredWith f .ok [] { s with
       requestQ := rest
       flow := { s.flow with setting := duration }
       notices := s.notices.setMask (mask.setWidth 3) })) ∧
  (∀ (n : NoticeUnit) (new : BitVec 3),
     let after := n.setMask new
     let disabled (k : UnsolicitedKind) : Prop := n.mask.getLsbD k.bit = true ∧ new.getLsbD k.bit = false
     after.mask = new ∧ after.completions = n.completions ∧
     (∀ k, after.outstanding k = if disabled k ∧ n.outstanding k = .pending then .idle else n.outstanding k) ∧
     after.bootOutcome = (if disabled .bootDone ∧ n.bootDone ≠ .idle then none else n.bootOutcome) ∧
     after.overrunSet = (if disabled .overrun ∧ n.overrun ≠ .idle then false else n.overrunSet) ∧
     after.accumulator = (if disabled .sequence ∧ n.sequence ≠ .idle then 0 else n.accumulator)) ∧
  (∀ (s : State) (f : RequestFrame) (rest : List ReverseFrame), Takes 0x05 f rest s → s.mode = .running →
     f.params = [] →
     exec .releaseAddress s =
       .next (answeredWith f .ok [byteOf s.address] { s with requestQ := rest, address := 0 }))

/-! ### Banks and their requests -/

/-- A table write or CLEAR_SHADOW changes the named part of the EDITABLE shadow and nothing else.
While RUNNING with the shadow EDITABLE: WRITE_GROUP sets mode and output group with emit count 0, WRITE_MAP a slot in use or
empty, WRITE_CURVE an entry defined or undefined, WRITE_POINTS a run of 1 to 15 points, CLEAR_SHADOW the empty bank, each in
the SHADOW bank whole, and each is answered OK. The code bytes of mode, action and end policy are those of R78. -/
def Obligations.TableWritesChangeTheShadow : Prop :=
  ([GroupMode.bypass, .process, .block].map GroupMode.code = [0x00, 0x01, 0x02] ∧
    [Action.correct, .pass].map Action.code = [0x00, 0x01] ∧
    [EndPolicy.clamp, .extend, .mark].map EndPolicy.code = [0x00, 0x01, 0x02]) ∧
  ∀ (s : State) (f : RequestFrame) (rest : List ReverseFrame), s.mode = .running → s.shadow = .editable →
    let b := shadowBank s
    let written (b' : Bank) : Host.Outcome State Fault Refusal :=
      .next (answeredWith f .ok [] (setShadowBank b' { s with requestQ := rest }))
    (∀ (g out : Fin 16) (mode : GroupMode), Takes 0x10 f rest s → f.params = [byteOf g, mode.code, byteOf out] →
      exec .writeGroup s = written { b with groups := b.groups.set g { mode := mode, out := out, emit := 0 } }) ∧
    (∀ (slot : Fin 64) (e : MapEntry), Takes 0x11 f rest s →
      f.params = [byteOf slot, 0x01, byteOf e.group, byteOf e.pos, e.action.code, byteOf e.curve, byteOf e.out] →
      exec .writeMap s = written { b with slots := b.slots.set slot (some e) }) ∧
    (∀ (slot : Fin 64) (v w x y z : Byte), Takes 0x11 f rest s → f.params = [byteOf slot, 0x00, v, w, x, y, z] →
      exec .writeMap s = written { b with slots := b.slots.set slot none }) ∧
    (∀ (i : Fin 32) (c : CurveDef), Takes 0x12 f rest s → c.wellFormed →
      f.params = [byteOf i, 0x01, byteOf c.start, byteOf c.count, c.policy.code] →
      exec .writeCurve s = written { b with curves := b.curves.set i (some c) }) ∧
    (∀ (i : Fin 32) (x y z : Byte), Takes 0x12 f rest s → f.params = [byteOf i, 0x00, x, y, z] →
      exec .writeCurve s = written { b with curves := b.curves.set i none }) ∧
    (∀ (start : Fin 256) (points : List Point), Takes 0x13 f rest s → 1 ≤ points.length → points.length ≤ 15 →
      start.val + points.length ≤ 256 → f.params = byteOf start :: points.flatMap pointBytes →
      exec .writePoints s = written { b with
        points := Vector.ofFn fun i =>
          if start.val ≤ i.val ∧ i.val < start.val + points.length then points.getD (i.val - start.val) b.points[i]
          else b.points[i] }) ∧
    (Takes 0x21 f rest s → f.params = [] → exec .clearShadow s = written Bank.empty)

/-- A test reports the first check that fails and records emit counts alone; a valid PROCESS group fills its positions.
The empty bank has BYPASS groups under their own numbers, empty slots, undefined curves and points (0, 0), passes the test and
records what it holds. Recording changes the emit counts alone, to the slot count of each PROCESS group and 0 for others, and
does not change the outcome of a test. In a bank that passes, a PROCESS group has 1 to 16 slots and each output position below
their number belongs to exactly one of them. A bank passes exactly when no check fails: every defined curve ordered; no two
slots with one key; in a PROCESS group every CORRECT slot's curve defined, no two output positions equal, at least one slot,
positions exactly 0 to k - 1; no two groups that are not BLOCK emitting under one number. The fault of a test is the check
that fails first: curves, then slots, then groups, each in ascending index and each item's checks in their order. -/
def Obligations.ValidBanksFillTheirGroups : Prop :=
  ((∀ g : Fin 16, Bank.empty.groups[g] = { mode := .bypass, out := g, emit := 0 }) ∧
   (∀ i : Fin 64, Bank.empty.slots[i] = none) ∧ (∀ i : Fin 32, Bank.empty.curves[i] = none) ∧
   (∀ i : Fin 256, Bank.empty.points[i] = { x := 0, y := 0 }) ∧ testBank Bank.empty = none ∧ recordEmits Bank.empty = Bank.empty) ∧
  (∀ b : Bank, testBank (recordEmits b) = testBank b ∧
     (recordEmits b).slots = b.slots ∧ (recordEmits b).curves = b.curves ∧ (recordEmits b).points = b.points ∧
     ∀ g : Fin 16, (recordEmits b).groups[g] =
       { mode := (b.groups[g]).mode, out := (b.groups[g]).out, emit := if modeOf b g = .process then emitCount b g else 0 }) ∧
  (∀ (b : Bank) (g : Fin 16), testBank b = none → modeOf b g = .process →
     1 ≤ (groupSlots b g).length ∧ (groupSlots b g).length ≤ 16 ∧
     (emitCount b g).val = (groupSlots b g).length ∧
     ∀ q, q < (groupSlots b g).length → ∃ se ∈ groupSlots b g, se.2.out.val = q ∧ ∀ te ∈ groupSlots b g, te.2.out.val = q → te = se) ∧
  (∀ b : Bank, (testBank b = none ↔ ∀ fault, ¬ CheckFails b fault) ∧
     ∀ fault, testBank b = some fault ↔
       CheckFails b fault ∧ ∀ other, CheckFails b other → checkPlace fault ≤ checkPlace other)

/-- READ_TABLE and READ_COUNTERS answer with the entries asked for; a clear resets those read.
READ_TABLE of the ACTIVE role, or of a SHADOW that is neither COPYING nor LOADING while RUNNING, answers OK with the entries
of the bank that holds the role and changes nothing. Group entries, map slots, curve entries and points have the bytes of R78,
each 16-bit field high byte first. READ_COUNTERS while RUNNING answers OK with the slot counters, or the group counters and
trackers, as they stood, and with the clear byte 1 sets the counters read, and no others, to 0; trackers stay. -/
def Obligations.TablesAndCountersAreRead : Prop :=
  ((∀ e : GroupEntry, groupBytes e =
      [match e.mode with
        | .bypass => 0x00
        | .process => 0x01
        | .block => 0x02,
       byteOf e.out, byteOf e.emit]) ∧
   (∀ e : Option MapEntry, slotBytes e =
      match e with
      | none => [0x00, 0x00, 0x00, 0x00, 0x00, 0x00]
      | some e => [0x01, byteOf e.group, byteOf e.pos, if e.action = .correct then 0x00 else 0x01, byteOf e.curve, byteOf e.out]) ∧
   (∀ c : Option CurveDef, curveBytes c =
      match c with
      | none => [0x00, 0x00, 0x00, 0x00]
      | some c =>
        [0x01, byteOf c.start, byteOf c.count,
         match c.policy with
          | .clamp => 0x00
          | .extend => 0x01
          | .mark => 0x02]) ∧
   (∀ p : Point, pointBytes p = [p.x.extractLsb' 8 8, p.x.extractLsb' 0 8, p.y.extractLsb' 8 8, p.y.extractLsb' 0 8]) ∧
   (∀ h : Half, halfBytes h = [h.extractLsb' 8 8, h.extractLsb' 0 8])) ∧
  (∀ (s : State) (f : RequestFrame) (rest : List ReverseFrame) (role table first count : Byte), Takes 0x14 f rest s →
     f.params = [role, table, first, count] →
     (role = 0x00 ∨ (role = 0x01 ∧ s.mode = .running ∧ s.shadow ≠ .loading ∧ ∀ tag, s.shadow ≠ .copying tag)) →
     1 ≤ count.toNat →
     let b := if role = 0x01 then shadowBank s else activeBank s
     let answered (data : List Byte) : Host.Outcome State Fault Refusal :=
       .next (answeredWith f .ok data { s with requestQ := rest })
     (table = 0x00 → first.toNat + count.toNat ≤ 16 →
       exec .readTable s = answered (((b.groups.toList.drop first.toNat).take count.toNat).flatMap groupBytes)) ∧
     (table = 0x01 → count.toNat ≤ 10 → first.toNat + count.toNat ≤ 64 →
       exec .readTable s = answered (((b.slots.toList.drop first.toNat).take count.toNat).flatMap slotBytes)) ∧
     (table = 0x02 → count.toNat ≤ 16 → first.toNat + count.toNat ≤ 32 →
       exec .readTable s = answered (((b.curves.toList.drop first.toNat).take count.toNat).flatMap curveBytes)) ∧
     (table = 0x03 → count.toNat ≤ 16 → first.toNat + count.toNat ≤ 256 →
       exec .readTable s = answered (((b.points.toList.drop first.toNat).take count.toNat).flatMap pointBytes))) ∧
  (∀ (s : State) (f : RequestFrame) (rest : List ReverseFrame) (first count clear : Byte), Takes 0x15 f rest s →
     s.mode = .running → (clear = 0x00 ∨ clear = 0x01) → 1 ≤ count.toNat →
     let read (i : Nat) : Bool := decide (first.toNat ≤ i ∧ i < first.toNat + count.toNat)
     (f.params = [0x00, first, count, clear] → count.toNat ≤ 16 → first.toNat + count.toNat ≤ 64 →
       exec .readCounters s =
         .next (answeredWith f .ok
           (((s.slotCounts.toList.drop first.toNat).take count.toNat).flatMap fun c => halfBytes c.sat ++ halfBytes c.range)
           { s with
             requestQ := rest
             slotCounts := Vector.ofFn fun i =>
               if clear = 0x01 ∧ read i.val = true then { sat := 0, range := 0 } else s.slotCounts[i] })) ∧
     (f.params = [0x01, first, count, clear] → count.toNat ≤ 10 → first.toNat + count.toNat ≤ 16 →
       exec .readCounters s =
         .next (answeredWith f .ok
           ((((s.groupCounts.toList.zip s.trackers.toList).drop first.toNat).take count.toNat).flatMap fun ct =>
             halfBytes ct.1.gap ++ halfBytes ct.1.dup ++
               match ct.2 with
               | .unsynced => [0x00, 0x00]
               | .synced last => [0x01, last])
           { s with
             requestQ := rest
             groupCounts := Vector.ofFn fun i =>
               if clear = 0x01 ∧ read i.val = true then { gap := 0, dup := 0 } else s.groupCounts[i] })))

/-- EVALUATE answers one record per value of a defined and ordered curve.
EVALUATE of a curve of a readable role answers OK with value and indications for each of 1 to 16 values, as the correction
stage computes them, when the curve is defined and ordered, and BAD_PARAM when it is not. Nothing of the part changes. -/
def Obligations.EvaluateAnswersPerValue : Prop :=
  ∀ (s : State) (f : RequestFrame) (rest : List ReverseFrame) (role : Byte) (curve : Fin 32) (values : List Half),
    Takes 0x16 f rest s → f.params = [role, byteOf curve] ++ values.flatMap halfBytes → 1 ≤ values.length →
    values.length ≤ 16 →
    (role = 0x00 ∨ (role = 0x01 ∧ s.mode = .running ∧ s.shadow ≠ .loading ∧ ∀ tag, s.shadow ≠ .copying tag)) →
    let b := if role = 0x01 then shadowBank s else activeBank s
    (∀ c, b.curves[curve] = some c → ordered (curvePoints b c) = true →
      exec .evaluate s = .next (answeredWith f .ok
        (values.flatMap fun x =>
          let r := evalCurve (curvePoints b c) c.policy x
          halfBytes r.value ++ [(if r.range then 0x04 else 0x00) ||| (if r.sat then 0x08 else 0x00)])
        { s with requestQ := rest })) ∧
    ((b.curves[curve] = none ∨ ∃ c, b.curves[curve] = some c ∧ ordered (curvePoints b c) = false) →
      exec .evaluate s = .next (answeredWith f .badParam [] { s with requestQ := rest }))

/-- A request directed at a shadow in use is answered BUSY.
While RUNNING with the shadow not EDITABLE, table writes, COPY_ACTIVE, CLEAR_SHADOW, VALIDATE, COMMIT, STORE_LOAD and
STORE_SAVE of the SHADOW, each with any parameters in range, are answered BUSY; with the shadow COPYING or LOADING so are
READ_TABLE and EVALUATE of the SHADOW role, with any parameters in range. CANCEL_COMMIT with no commit in its test or ARMED is
answered STATE. -/
def Obligations.ShadowInUseAnswersBusy : Prop :=
  ∀ (s : State) (f : RequestFrame) (rest : List ReverseFrame), s.mode = .running →
    let busy : Host.Outcome State Fault Refusal := .next (answeredWith f .busy [] { s with requestQ := rest })
    (s.shadow ≠ .editable →
      (∀ (g out : Fin 16) (mode : GroupMode), Takes 0x10 f rest s → f.params = [byteOf g, mode.code, byteOf out] →
        exec .writeGroup s = busy) ∧
      (∀ (slot : Fin 64) (e : MapEntry), Takes 0x11 f rest s →
        f.params = [byteOf slot, 0x01, byteOf e.group, byteOf e.pos, e.action.code, byteOf e.curve, byteOf e.out] →
        exec .writeMap s = busy) ∧
      (∀ (slot : Fin 64) (v w x y z : Byte), Takes 0x11 f rest s → f.params = [byteOf slot, 0x00, v, w, x, y, z] →
        exec .writeMap s = busy) ∧
      (∀ (i : Fin 32) (c : CurveDef), Takes 0x12 f rest s → c.wellFormed →
        f.params = [byteOf i, 0x01, byteOf c.start, byteOf c.count, c.policy.code] → exec .writeCurve s = busy) ∧
      (∀ (i : Fin 32) (x y z : Byte), Takes 0x12 f rest s → f.params = [byteOf i, 0x00, x, y, z] →
        exec .writeCurve s = busy) ∧
      (∀ (start : Fin 256) (points : List Point), Takes 0x13 f rest s → 1 ≤ points.length → points.length ≤ 15 →
        start.val + points.length ≤ 256 → f.params = byteOf start :: points.flatMap pointBytes →
        exec .writePoints s = busy) ∧
      (Takes 0x20 f rest s → f.params = [] → exec .copyActive s = busy) ∧
      (Takes 0x21 f rest s → f.params = [] → exec .clearShadow s = busy) ∧
      (Takes 0x22 f rest s → f.params = [] → exec .validate s = busy) ∧
      (∀ group sequence hi lo, Takes 0x23 f rest s → f.params = [0x00, group, sequence, hi, lo] → exec .commit s = busy) ∧
      (∀ (group : Fin 16) (sequence hi lo : Byte), Takes 0x23 f rest s → f.params = [0x01, byteOf group, sequence, hi, lo] →
        exec .commit s = busy) ∧
      (∀ slot : Fin 4, Takes 0x32 f rest s → f.params = [byteOf slot] → exec .storeLoad s = busy) ∧
      (∀ (slot : Fin 4) (label : List Byte), Takes 0x31 f rest s → label.length = 8 → f.params = 0x01 :: byteOf slot :: label →
        exec .storeSave s = busy)) ∧
    ((s.shadow = .loading ∨ ∃ tag, s.shadow = .copying tag) →
      (∀ table first count size most, Takes 0x14 f rest s → f.params = [0x01, table, first, count] →
        (table, size, most) ∈ [((0x00 : Byte), 16, 16), (0x01, 64, 10), (0x02, 32, 16), (0x03, 256, 16)] →
        1 ≤ count.toNat → count.toNat ≤ most → first.toNat + count.toNat ≤ size → exec .readTable s = busy) ∧
      (∀ (i : Fin 32) (values : List Half), Takes 0x16 f rest s → 1 ≤ values.length → values.length ≤ 16 →
        f.params = [0x01, byteOf i] ++ values.flatMap halfBytes → exec .evaluate s = busy)) ∧
    ((∀ tag, s.shadow ≠ .validating .commit tag) → s.shadow ≠ .armed → Takes 0x24 f rest s → f.params = [] →
      exec .cancelCommit s = .next (answeredWith f .state [] { s with requestQ := rest }))

/-- COPY_ACTIVE, VALIDATE and COMMIT are accepted with the shadow EDITABLE.
While RUNNING with the shadow EDITABLE the three requests answer ACCEPTED and the shadow becomes COPYING or VALIDATING with
the tag kept; COMMIT forms the commit record with its mode, its target under AT, its timeout and the timer stopped. -/
def Obligations.BankOperationsStart : Prop :=
  ∀ (s : State) (f : RequestFrame) (rest : List ReverseFrame), s.mode = .running → s.shadow = .editable →
    let accepted (t : State) : Host.Outcome State Fault Refusal := .next (answeredWith f .accepted [] t)
    (Takes 0x20 f rest s → f.params = [] →
      exec .copyActive s = accepted { s with requestQ := rest, shadow := .copying f.tag }) ∧
    (Takes 0x22 f rest s → f.params = [] →
      exec .validate s = accepted { s with requestQ := rest, shadow := .validating .validate (some f.tag) }) ∧
    (∀ group sequence hi lo, Takes 0x23 f rest s → f.params = [0x00, group, sequence, hi, lo] →
      exec .commit s = accepted { s with
        requestQ := rest
        shadow := .validating .commit (some f.tag)
        commit := some { origin := .request, tag := some f.tag, mode := .now, timeout := halfOf hi lo, timer := false } }) ∧
    (∀ (group : Fin 16) (sequence hi lo : Byte), Takes 0x23 f rest s → f.params = [0x01, byteOf group, sequence, hi, lo] →
      exec .commit s = accepted { s with
        requestQ := rest
        shadow := .validating .commit (some f.tag)
        commit := some {
          origin := .request, tag := some f.tag, mode := .atFrame group sequence, timeout := halfOf hi lo, timer := false } })

/-- A copy and a VALIDATE end with the shadow EDITABLE; every completion is formed, stays pending or follows.
COPY_COMPLETE makes the shadow equal to the ACTIVE bank and EDITABLE and raises COPY_DONE OK with the kept tag. TEST_COMPLETE
of a VALIDATE makes the shadow EDITABLE; a passed test records the emit counts and raises VALIDATE_DONE OK, a failed one
changes nothing in the bank and raises INVALID with the fault. A completion notice of any kind is formed at once in a free
place when nothing is pending; with none of its kind pending or following it becomes pending, stays so while the local queue
is full, and a free place goes to the first pending notice as NOTICE_FORMED gives it (also a place that was free while another
notice was pending, log 7); with one of its kind pending and none following it takes the follower place. Each kind and outcome
has the notice code of R76 and the data of R86. -/
def Obligations.CopyAndValidateComplete : Prop :=
  (∀ (s : State) (tag : Byte), s.held = false →
     (s.shadow = .copying tag →
       exec .copyComplete s =
         .next (raiseCompletion tag .copyDone { setShadowBank (activeBank s) s with shadow := .editable })) ∧
     (s.shadow = .validating .validate (some tag) →
       (testBank (shadowBank s) = none →
         exec .testComplete s = .next (raiseCompletion tag (.validateDone none)
           { setShadowBank (recordEmits (shadowBank s)) s with shadow := .editable })) ∧
       (∀ fault, testBank (shadowBank s) = some fault →
         exec .testComplete s = .next (raiseCompletion tag (.validateDone (some fault)) { s with shadow := .editable })))) ∧
  (∀ (s : State) (tag : Byte) (what : Completion),
     let i := what.kind.index
     let notice : CompletionNotice := { tag := tag, what := what }
     let withPlaces (p : CompletionPlaces) : State :=
       { s with notices := { s.notices with completions := s.notices.completions.set i p } }
     (s.localQ.length < 4 → Quiet s → raiseCompletion tag what s = noticed tag what.kind.code what.data s) ∧
     ((s.notices.completions[i]).pending = none → (s.notices.completions[i]).follower = none →
       (4 ≤ s.localQ.length → raiseCompletion tag what s = withPlaces { pending := some notice, follower := none }) ∧
       (s.held = false →
         exec .noticeFormed (withPlaces { pending := some notice, follower := none }) = .next (raiseCompletion tag what s))) ∧
     (∀ earlier, (s.notices.completions[i]).pending = some earlier → (s.notices.completions[i]).follower = none →
       raiseCompletion tag what s = withPlaces { pending := some earlier, follower := some notice })) ∧
  ((∀ what : Completion, (what.kind.code, what.data) =
      match what with
      | .copyDone => ((0x10 : Byte), [(0x00 : Byte)])
      | .validateDone none => (0x11, [0x00, 0x00, 0x00])
      | .validateDone (some fault) => (0x11, [0x01, fault.kind.code, byteOf fault.index])
      | .commitSwapped bank => (0x12, [0x00, if bank = .a then 0x00 else 0x01, 0x00, 0x00])
      | .commitInvalid fault => (0x12, [0x01, 0x00, fault.kind.code, byteOf fault.index])
      | .commitExpired => (0x12, [0x02, 0x00, 0x00, 0x00])
      | .commitCancelled => (0x12, [0x03, 0x00, 0x00, 0x00])
      | .loadDone result slot => (0x20, [result.code, byteOf slot])
      | .saveDone (some generation) slot => (0x21, [0x00, byteOf slot] ++ wordBytes generation)
      | .saveDone none slot => (0x21, [0x0C, byteOf slot, 0x00, 0x00, 0x00, 0x00])
      | .eraseDone result slot => (0x22, [result.code, byteOf slot])
      | .directoryDone result d =>
        (0x23, [result.code, (match d.boot with
            | some slot => byteOf slot
            | none => 0xFF),
          if d.fallback = true then 0x01 else 0x00, d.mask.setWidth 8])) ∧
   [Result.ok, .checkFail, .fault].map Result.code = [0x00, 0x09, 0x0C] ∧
   [FaultKind.curveOrder, .dupKey, .curveMissing, .outposDup, .groupEmpty, .outposHole, .groupClash].map FaultKind.code =
     [0x01, 0x02, 0x03, 0x04, 0x05, 0x06, 0x07])

/-- The test of a commit arms it, swaps it at once, or ends it INVALID.
TEST_COMPLETE of a COMMIT: a failed test makes the shadow EDITABLE, drops the record and raises COMMIT_DONE INVALID with the
fault. A passed test records the emit counts and the shadow is ARMED with its timer started when the timeout is not 0; a
commit in mode NOW that finds the stage IDLE is swapped at once with COMMIT_DONE SWAPPED. The notices are raised as
CopyAndValidateComplete says. -/
def Obligations.CommitTestCompletes : Prop :=
  ∀ (s : State) (t : Option Byte) (r : CommitRecord), s.held = false → s.shadow = .validating .commit t → s.commit = some r →
    (∀ fault tag, testBank (shadowBank s) = some fault → r.origin = .request → r.tag = some tag →
      exec .testComplete s =
        .next (raiseCompletion tag (.commitInvalid fault) { s with shadow := .editable, commit := none })) ∧
    (testBank (shadowBank s) = none →
      let tested : State := setShadowBank (recordEmits (shadowBank s)) s
      ((r.mode ≠ .now ∨ s.stage ≠ .idle) →
        exec .testComplete s =
          .next { tested with shadow := .armed, commit := some { r with timer := decide (r.timeout ≠ 0) } }) ∧
      (∀ tag, r.mode = .now → s.stage = .idle → r.origin = .request → r.tag = some tag →
        exec .testComplete s = .next (raiseCompletion tag (.commitSwapped s.active.other) (afterSwap tested))))

/-! ### The profile store and start-up -/

/-- Saves, loads, erases and directory writes are accepted by an IDLE store.
STORE_SAVE of an unprotected slot takes the snapshot into the buffer, fixes the generation 1 above the highest of the VALID
and DAMAGED slots, marks the slot INCOMPLETE in header and table and starts the SAVE. STORE_LOAD of a VALID slot makes an
EDITABLE shadow LOADING. STORE_ERASE of an unprotected slot marks it INCOMPLETE. STORE_SET_BOOT and STORE_PROTECT start a
write of the view with the new fields to the copy not in force, under the next sequence. Each is answered ACCEPTED with the
tag kept. -/
def Obligations.StoreOperationsStart : Prop :=
  (∀ (s : State) (f : RequestFrame) (rest : List ReverseFrame) (source : Byte) (slot : Fin 4) (label : Vector Byte 8)
     (highest : Nat), Takes 0x31 f rest s → s.mode = .running → s.store.op = none →
     f.params = source :: byteOf slot :: label.toList → (source = 0x00 ∨ (source = 0x01 ∧ s.shadow = .editable)) →
     s.store.view.setting.mask.getLsbD slot.val = false →
     (∀ i : Fin 4, ∀ g, generationOf s.store.table[i] = some g → g.toNat ≤ highest) →
     (highest = 0 ∨ ∃ i : Fin 4, ∃ g, generationOf s.store.table[i] = some g ∧ g.toNat = highest) → highest < 0xFFFFFFFF →
     exec .storeSave s = .next (answeredWith f .accepted [] { s with
       requestQ := rest
       nv := { s.nv with slots := s.nv.slots.set slot { header := .incomplete, body := (s.nv.slots[slot]).body } }
       store := { s.store with
         op := some (.save f.tag slot (BitVec.ofNat 32 (highest + 1)) label)
         table := s.store.table.set slot .incomplete
         buffer := some (bankBytes (if source = 0x01 then shadowBank s else activeBank s)) } })) ∧
  (∀ (s : State) (f : RequestFrame) (rest : List ReverseFrame), s.mode = .running → s.store.op = none →
     let accepted (t : State) : Host.Outcome State Fault Refusal := .next (answeredWith f .accepted [] t)
     let target : CopyName := if s.store.view.inForce = some .copy0 then .copy1 else .copy0
     let sequence : Half := if s.store.view.inForce = none then 1 else s.store.view.sequence + 1
     (∀ (slot : Fin 4) (info : SlotInfo), Takes 0x32 f rest s → f.params = [byteOf slot] → s.shadow = .editable →
       s.store.table[slot] = .valid info →
       exec .storeLoad s = accepted { s with
         requestQ := rest, shadow := .loading, store := { s.store with op := some (.load (some f.tag) slot) } }) ∧
     (∀ slot : Fin 4, Takes 0x33 f rest s → f.params = [byteOf slot] → s.store.view.setting.mask.getLsbD slot.val = false →
       exec .storeErase s = accepted { s with
         requestQ := rest
         nv := { s.nv with slots := s.nv.slots.set slot { header := .incomplete, body := (s.nv.slots[slot]).body } }
         store := { s.store with op := some (.erase f.tag slot), table := s.store.table.set slot .incomplete } }) ∧
     (∀ (boot : Option (Fin 4)) (fallback : Bool), Takes 0x34 f rest s → f.params = [bootByte boot, boolByte fallback] →
       exec .storeSetBoot s = accepted { s with
         requestQ := rest
         store := { s.store with
           op := some (.dirWrite f.tag { s.store.view.setting with boot := boot, fallback := fallback } target sequence) } }) ∧
     (∀ mask : BitVec 4, Takes 0x35 f rest s → f.params = [mask.setWidth 8] →
       exec .storeProtect s = accepted { s with
         requestQ := rest
         store := { s.store with
           op := some (.dirWrite f.tag { s.store.view.setting with mask := mask } target sequence) } }))

/-- A BUSY store, a protected slot, an exhausted generation and an unusable slot are refused.
While RUNNING: with an operation in progress the five store requests answer BUSY. An IDLE store answers PROTECTED to a save or
erase of a slot whose mask bit is set, EXHAUSTED to a save when a slot carries generation FFFFFFFFh (that a save over that
very slot is refused too is the model's choice, log 15), EMPTY to a load of a slot that is EMPTY or INCOMPLETE, and CHECK_FAIL
to a load of a DAMAGED one. -/
def Obligations.StoreConditionsRefuse : Prop :=
  ∀ (s : State) (f : RequestFrame) (rest : List ReverseFrame), s.mode = .running →
    let refused (r : Result) : Host.Outcome State Fault Refusal := .next (answeredWith f r [] { s with requestQ := rest })
    (∀ (source : Byte) (slot : Fin 4) (label : List Byte), Takes 0x31 f rest s → label.length = 8 →
      f.params = source :: byteOf slot :: label → (source = 0x00 ∨ (source = 0x01 ∧ s.shadow = .editable)) →
      (s.store.op ≠ none → exec .storeSave s = refused .busy) ∧
      (s.store.op = none → s.store.view.setting.mask.getLsbD slot.val = true → exec .storeSave s = refused .protected_) ∧
      (s.store.op = none → s.store.view.setting.mask.getLsbD slot.val = false →
        (∃ i : Fin 4, generationOf s.store.table[i] = some 0xFFFFFFFF) → exec .storeSave s = refused .exhausted)) ∧
    (∀ slot : Fin 4, Takes 0x32 f rest s → f.params = [byteOf slot] → s.shadow = .editable →
      (s.store.op ≠ none → exec .storeLoad s = refused .busy) ∧
      (s.store.op = none → (s.store.table[slot] = .empty ∨ s.store.table[slot] = .incomplete) →
        exec .storeLoad s = refused .empty) ∧
      (∀ info, s.store.op = none → s.store.table[slot] = .damaged info → exec .storeLoad s = refused .checkFail)) ∧
    (∀ slot : Fin 4, Takes 0x33 f rest s → f.params = [byteOf slot] →
      (s.store.op ≠ none → exec .storeErase s = refused .busy) ∧
      (s.store.op = none → s.store.view.setting.mask.getLsbD slot.val = true → exec .storeErase s = refused .protected_)) ∧
    (s.store.op ≠ none →
      (∀ (boot : Option (Fin 4)) (fallback : Bool), Takes 0x34 f rest s → f.params = [bootByte boot, boolByte fallback] →
        exec .storeSetBoot s = refused .busy) ∧
      (∀ mask : BitVec 4, Takes 0x35 f rest s → f.params = [mask.setWidth 8] → exec .storeProtect s = refused .busy))

/-- A save and an erase end OK by their read-back, or FAULT with the slot INCOMPLETE.
SAVE_COMPLETE that reads back as written commits the header with generation, label, length 1584 and the CRC of the buffer over
the buffer's image, the entry is VALID and SAVE_DONE OK carries the generation; otherwise the slot stays INCOMPLETE and
SAVE_DONE FAULT carries generation 0. ERASE_COMPLETE that reads erased leaves header and body erased and the entry EMPTY with
ERASE_DONE OK; otherwise the header is INCOMPLETE and ERASE_DONE is FAULT. What a failed operation leaves of the body is free
(log 4). The notices are raised as CopyAndValidateComplete says. -/
def Obligations.SaveAndEraseComplete : Prop :=
  (∀ (s : State) (tag : Byte) (slot : Fin 4) (generation : Word) (label : Vector Byte 8) (image : List Byte), s.held = false →
     s.store.op = some (.save tag slot generation label) → s.store.buffer = some image →
     let info : SlotInfo := { generation := generation, label := label, length := 1584 }
     (exec (.saveComplete true) s = .next (raiseCompletion tag (.saveDone (some generation) slot) { s with
       nv := { s.nv with slots := s.nv.slots.set slot { header := .valid info (bodyCheck image), body := some image } }
       store := { s.store with op := none, table := s.store.table.set slot (.valid info) } })) ∧
     ∃ left, exec (.saveComplete false) s = .next (raiseCompletion tag (.saveDone none slot) { s with
       nv := { s.nv with slots := s.nv.slots.set slot { header := .incomplete, body := left } }
       store := { s.store with op := none }
       freeCount := s.freeCount + 1 })) ∧
  (∀ (s : State) (tag : Byte) (slot : Fin 4), s.held = false → s.store.op = some (.erase tag slot) →
     (exec (.eraseComplete true) s = .next (raiseCompletion tag (.eraseDone .ok slot) { s with
       nv := { s.nv with slots := s.nv.slots.set slot { header := .erased, body := none } }
       store := { s.store with op := none, table := s.store.table.set slot .empty } })) ∧
     ∃ left, exec (.eraseComplete false) s = .next (raiseCompletion tag (.eraseDone .fault slot) { s with
       nv := { s.nv with slots := s.nv.slots.set slot { header := .incomplete, body := left } }
       store := { s.store with op := none }
       freeCount := s.freeCount + 1 }))

/-- A load replaces the shadow when the body matches its CRC, and marks the slot DAMAGED when not.
LOAD_COMPLETE of a STORE_LOAD: a body that is the image of a bank and matches the CRC of its header replaces every field of
the shadow, and LOAD_DONE is OK; a body that does not match marks the slot DAMAGED with its generation, label and length kept,
leaves the shadow's content, and LOAD_DONE is CHECK_FAIL. In both cases the shadow is EDITABLE and the store IDLE with the
body in the buffer. A body that has changed since its save is read as it now stands, and stays so in the store; which bytes a
body reads as is an operand (log 6). The notices are raised as CopyAndValidateComplete says. -/
def Obligations.LoadCompletes : Prop :=
  ∀ (s : State) (tag : Byte) (slot : Fin 4) (info : SlotInfo) (crc : Word) (body : List Byte), s.held = false →
    s.store.op = some (.load (some tag) slot) → s.nv.slots[slot] = { header := .valid info crc, body := some body } →
    s.store.table[slot] = .valid info →
    let ended : State := { s with shadow := .editable, store := { s.store with op := none, buffer := some body } }
    (∀ b : Bank, b.wellFormed → body = bankBytes b → bodyCheck body = crc →
      exec (.loadComplete .asStored) s = .next (raiseCompletion tag (.loadDone .ok slot) (setShadowBank b ended))) ∧
    (bodyCheck body ≠ crc →
      exec (.loadComplete .asStored) s = .next (raiseCompletion tag (.loadDone .checkFail slot) { ended with
        store := { ended.store with table := s.store.table.set slot (.damaged info) } })) ∧
    (∀ bytes : List Byte,
      exec (.loadComplete (.changed bytes)) s = exec (.loadComplete .asStored)
        { s with nv := { s.nv with slots := s.nv.slots.set slot { header := .valid info crc, body := some bytes } } })

/-- A directory write puts its copy in force, or leaves the view; a scan finds the written copy.
DIRECTORY_WRITE_COMPLETE that reads back the same makes the target copy valid with the setting and sequence, the view takes
it, and DIRECTORY_DONE OK names it; otherwise the view stays and DIRECTORY_DONE FAULT names the setting still in force. The
other copy and the slots are not touched. The directory in force is the newer of two valid copies, copy 0 when neither is
newer, the one valid copy, or boot NONE, fallback OFF and mask 0 without one; so a copy written with the next sequence is the
one a later scan takes. A copy is valid when its check matches and its boot slot and mask are in their ranges (which bytes its
check is over is the model's choice, log 9). The notices are raised as CopyAndValidateComplete says. -/
def Obligations.DirectoryWriteCompletes : Prop :=
  (∀ (s : State) (tag : Byte) (d : DirSetting) (target : CopyName) (sequence : Half), s.held = false →
     s.store.op = some (.dirWrite tag d target sequence) →
     (∃ nv, exec (.directoryWriteComplete .same) s = .next
         (raiseCompletion tag (.directoryDone .ok d) { s with
           nv := nv
           store := { s.store with op := none, view := { setting := d, inForce := some target, sequence := sequence } } }) ∧
       nv.slots = s.nv.slots ∧
       (target = .copy0 → copySetting nv.copy0 = some d ∧ nv.copy0.sequence = sequence ∧ nv.copy1 = s.nv.copy1) ∧
       (target = .copy1 → copySetting nv.copy1 = some d ∧ nv.copy1.sequence = sequence ∧ nv.copy0 = s.nv.copy0)) ∧
     (∀ left : DirCopy,
       ∃ nv, exec (.directoryWriteComplete (.differs left)) s = .next
           (raiseCompletion tag (.directoryDone .fault s.store.view.setting) { s with
             nv := nv, store := { s.store with op := none } }) ∧
         nv.slots = s.nv.slots ∧ (target = .copy0 → nv.copy1 = s.nv.copy1) ∧ (target = .copy1 → nv.copy0 = s.nv.copy0))) ∧
  (∀ (nv : NvStore) (d d' : DirSetting) (sequence : Half),
     (nv.copy0 = writtenCopy d (sequence + 1) → nv.copy1 = writtenCopy d' sequence →
       directoryInForce nv = { setting := d, inForce := some .copy0, sequence := sequence + 1 }) ∧
     (nv.copy1 = writtenCopy d (sequence + 1) → nv.copy0 = writtenCopy d' sequence →
       directoryInForce nv = { setting := d, inForce := some .copy1, sequence := sequence + 1 }) ∧
     (nv.copy0 = writtenCopy d sequence → copySetting nv.copy1 = none →
       directoryInForce nv = { setting := d, inForce := some .copy0, sequence := sequence }) ∧
     (copySetting nv.copy0 = none → nv.copy1 = writtenCopy d sequence →
       directoryInForce nv = { setting := d, inForce := some .copy1, sequence := sequence })) ∧
  (∀ (nv : NvStore) (d0 d1 : DirSetting),
     (copySetting nv.copy0 = some d0 → copySetting nv.copy1 = some d1 →
       directoryInForce nv =
         if 1 ≤ (nv.copy1.sequence - nv.copy0.sequence).toNat ∧ (nv.copy1.sequence - nv.copy0.sequence).toNat ≤ 32767 then
           { setting := d1, inForce := some .copy1, sequence := nv.copy1.sequence }
         else { setting := d0, inForce := some .copy0, sequence := nv.copy0.sequence }) ∧
     (copySetting nv.copy0 = some d0 → copySetting nv.copy1 = none →
       directoryInForce nv = { setting := d0, inForce := some .copy0, sequence := nv.copy0.sequence }) ∧
     (copySetting nv.copy0 = none → copySetting nv.copy1 = some d1 →
       directoryInForce nv = { setting := d1, inForce := some .copy1, sequence := nv.copy1.sequence }) ∧
     (copySetting nv.copy0 = none → copySetting nv.copy1 = none →
       (directoryInForce nv).setting = { boot := none, fallback := false, mask := 0 } ∧ (directoryInForce nv).inForce = none)) ∧
  (∀ c : DirCopy,
     ((c.check ≠ dirCheck c ∨ 16 ≤ c.mask.toNat ∨ (4 ≤ c.boot.toNat ∧ c.boot ≠ 0xFF)) → copySetting c = none) ∧
     (∀ (boot : Option (Fin 4)) (mask : BitVec 4), c.check = dirCheck c → c.mask = mask.setWidth 8 →
       (c.boot = match boot with
         | some slot => byteOf slot
         | none => 0xFF) →
       copySetting c = some { boot := boot, fallback := c.fallback, mask := mask }))

/-- A bank image of 1584 bytes holds every field of the bank, and its check is the CRC-32 of R79.
For every bank whose defined curves have their ranges, the image has 1584 bytes and reads back as that very bank: group modes,
output groups and emit counts, map slots, curves and points, with every field at every value it may have. The image is the 16
group entries, then the 64 map slots, the 32 curve entries and the 256 points, each in ascending index and with the bytes that
TablesAndCountersAreRead spells. The check of a body starts at FFFFFFFFh, takes the bits of each byte least significant first
under the polynomial 04C11DB7h reflected, and ends with an exclusive-or by FFFFFFFFh; over the bytes 31h to 39h it is
CBF43926h. -/
def Obligations.BankImageHoldsTheWholeBank : Prop :=
  (∀ b : Bank, b.wellFormed → (bankBytes b).length = 1584 ∧ bankOf (bankBytes b) = some b) ∧
  (∀ b : Bank, bankBytes b = b.groups.toList.flatMap groupBytes ++ b.slots.toList.flatMap slotBytes ++
    b.curves.toList.flatMap curveBytes ++ b.points.toList.flatMap pointBytes) ∧
  bodyCheck [] = 0 ∧
  (∀ (bytes : List Byte) (b : Byte), ~~~ bodyCheck (bytes ++ [b]) =
    (List.range 8).foldl
      (fun (c : Word) i => if (c.getLsbD 0 ^^ b.getLsbD i) = true then (c >>> 1) ^^^ (0x04C11DB7#32).reverse else c >>> 1)
      (~~~ bodyCheck bytes)) ∧
  bodyCheck [0x31, 0x32, 0x33, 0x34, 0x35, 0x36, 0x37, 0x38, 0x39] = 0xCBF43926

/-- A scan rebuilds table and view, and the boot makes its first choice.
SCAN_COMPLETE classes all four slots by their headers as the store holds them (log 16): ERASED gives EMPTY, INCOMPLETE gives
INCOMPLETE, VALID with length 1584 gives VALID with generation, label and length, any other header INCOMPLETE. It takes the
directory in force as DirectoryWriteCompletes gives it. In a boot the candidate's load starts and the slot joins the tried
set, or without a candidate the boot ends with the empty bank, RUNNING, and BOOT_DONE EMPTY when enabled. After a KEEP restart
BOOT_DONE KEPT is reported when enabled. BOOT_DONE is formed in a free place with nothing pending, and is PENDING with its
outcome while the local queue is full. -/
def Obligations.ScanCompletes : Prop :=
  ((∀ (info : SlotInfo) (crc : Word),
      (info.length = 1584 → classify (.valid info crc) = .valid info) ∧
      (info.length ≠ 1584 → classify (.valid info crc) = .incomplete)) ∧
    classify .erased = .empty ∧ classify .incomplete = .incomplete ∧ classify .unreadable = .incomplete) ∧
  ∀ s : State, s.held = false → s.store.op = some .scan →
    let scanned : State := { s with store := { s.store with
      op := none
      table := Vector.ofFn fun i => classify (s.nv.slots[i]).header
      view := directoryInForce s.nv } }
    (∀ r slot generation, s.boot = some r → candidate scanned.store r.tried = some (slot, generation) →
      exec .scanComplete s = .next { scanned with
        boot := some { phase := .load, candidate := some (slot, generation), tried := r.tried ++ [slot] }
        shadow := .loading
        store := { scanned.store with op := some (.load none slot) } }) ∧
    (∀ r, s.boot = some r → candidate scanned.store r.tried = none → s.notices.mask.getLsbD 0 = false →
      exec .scanComplete s = .next { setShadowBank Bank.empty scanned with
        shadow := .editable, mode := .running, boot := none }) ∧
    (∀ r, s.boot = some r → candidate scanned.store r.tried = none → s.notices.mask.getLsbD 0 = true → Roomy s →
      exec .scanComplete s = .next (noticed 0 0x01 [0x01, 0xFF, 0x00, 0x00, 0x00, 0x00]
        { setShadowBank Bank.empty scanned with
          shadow := .editable, mode := .running, boot := none
          notices := { s.notices with bootDone := .queued, bootOutcome := none } })) ∧
    (∀ r, s.boot = some r → candidate scanned.store r.tried = none → s.notices.mask.getLsbD 0 = true → 4 ≤ s.localQ.length →
      exec .scanComplete s = .next { setShadowBank Bank.empty scanned with
        shadow := .editable, mode := .running, boot := none
        notices := { s.notices with bootDone := .pending, bootOutcome := some .empty } }) ∧
    (s.boot = none → s.notices.mask.getLsbD 0 = false → exec .scanComplete s = .next scanned) ∧
    (s.boot = none → s.notices.mask.getLsbD 0 = true → 4 ≤ s.localQ.length →
      exec .scanComplete s = .next { scanned with
        notices := { s.notices with bootDone := .pending, bootOutcome := some .kept } }) ∧
    (s.boot = none → s.notices.mask.getLsbD 0 = true → Roomy s →
      exec .scanComplete s = .next (noticed 0 0x01 [0x02, 0xFF, 0x00, 0x00, 0x00, 0x00]
        { scanned with notices := { s.notices with bootDone := .queued, bootOutcome := none } }))

/-- The candidate is the boot slot, else under fallback the newest VALID untried slot, else none.
When no two VALID or DAMAGED slots share a generation: a boot slot that is VALID and untried is the candidate; otherwise, with
fallback ON, the VALID untried slot with the highest generation; otherwise there is none. -/
def Obligations.CandidateIsChosenInOrder : Prop :=
  ∀ (store : StoreController) (tried : List (Fin 4)), GenerationsDistinct (fun i => store.table[i]) →
    let usable (slot : Fin 4) (info : SlotInfo) : Prop := store.table[slot] = .valid info ∧ slot ∉ tried
    (∀ slot info, store.view.setting.boot = some slot → usable slot info →
      candidate store tried = some (slot, info.generation)) ∧
    ((∀ slot info, store.view.setting.boot = some slot → ¬ usable slot info) →
      (store.view.setting.fallback = false → candidate store tried = none) ∧
      (store.view.setting.fallback = true →
        (∀ slot info, usable slot info → (∀ i other, usable i other → other.generation.toNat ≤ info.generation.toNat) →
          candidate store tried = some (slot, info.generation)) ∧
        ((∀ slot info, ¬ usable slot info) → candidate store tried = none)))

/-- A boot tests what it has loaded, tries the next candidate after a failure, and swaps in the one that passes.
A boot load that matches fills the shadow and starts its test with a commit of origin BOOT, mode NOW and timeout 0; one that
does not match marks the slot DAMAGED, and the next candidate's load starts. A test that fails leads to the next candidate
too. When none remains after a failed load or test, the boot ends at that event: the shadow is the empty bank and EDITABLE,
the part is RUNNING without a boot record or commit, and BOOT_DONE EMPTY is reported when enabled. A candidate that passes is
swapped into service at once, the part is RUNNING without a boot record, and BOOT_DONE LOADED names slot and generation when
enabled. BOOT_DONE is formed in a free place with nothing pending, and is PENDING while the local queue is full. -/
def Obligations.BootTriesItsCandidates : Prop :=
  (∀ (s : State) (r : BootRecord) (slot next : Fin 4) (info : SlotInfo) (crc : Word) (body : List Byte) (generation : Word),
     s.held = false → s.boot = some r →
     let endsEmpty (c : Instr) (t : State) : Prop :=
       let ended : State := { setShadowBank Bank.empty t with shadow := .editable, mode := .running, boot := none }
       (s.notices.mask.getLsbD 0 = false → exec c s = .next ended) ∧
       (s.notices.mask.getLsbD 0 = true → Roomy s →
         exec c s = .next (noticed 0 0x01 [0x01, 0xFF, 0x00, 0x00, 0x00, 0x00]
           { ended with notices := { s.notices with bootDone := .queued, bootOutcome := none } })) ∧
       (s.notices.mask.getLsbD 0 = true → 4 ≤ s.localQ.length →
         exec c s = .next { ended with notices := { s.notices with bootDone := .pending, bootOutcome := some .empty } })
     (s.store.op = some (.load none slot) → s.nv.slots[slot] = { header := .valid info crc, body := some body } →
       s.store.table[slot] = .valid info →
       let read : StoreController := { s.store with op := none, buffer := some body }
       (∀ b : Bank, b.wellFormed → body = bankBytes b → bodyCheck body = crc →
         exec (.loadComplete .asStored) s = .next { setShadowBank b s with
           store := read
           shadow := .validating .boot none
           commit := some { origin := .boot, tag := none, mode := .now, timeout := 0, timer := false }
           boot := some { r with phase := .test } }) ∧
       (let marked : StoreController := { read with table := s.store.table.set slot (.damaged info) }
        bodyCheck body ≠ crc →
         (candidate marked r.tried = some (next, generation) →
           exec (.loadComplete .asStored) s = .next { s with
             store := { marked with op := some (.load none next) }
             shadow := .loading
             boot := some { phase := .load, candidate := some (next, generation), tried := r.tried ++ [next] } }) ∧
         (candidate marked r.tried = none → endsEmpty (.loadComplete .asStored) { s with store := marked }))) ∧
     (∀ fault tag, s.shadow = .validating .boot tag → testBank (shadowBank s) = some fault →
       (∀ c, s.commit = some c → c.origin = .boot) →
       (candidate s.store r.tried = some (next, generation) →
         exec .testComplete s = .next { s with
           store := { s.store with op := some (.load none next) }
           shadow := .loading
           commit := none
           boot := some { phase := .load, candidate := some (next, generation), tried := r.tried ++ [next] } }) ∧
       (candidate s.store r.tried = none → endsEmpty .testComplete { s with commit := none }))) ∧
  (∀ (s : State) (r : BootRecord) (tag : Option Byte) (slot : Fin 4) (generation : Word), s.held = false → s.boot = some r →
     r.candidate = some (slot, generation) → s.shadow = .validating .boot tag →
     s.commit = some { origin := .boot, tag := none, mode := .now, timeout := 0, timer := false } → s.stage = .idle →
     testBank (shadowBank s) = none →
     let swapped : State := { afterSwap (setShadowBank (recordEmits (shadowBank s)) s) with mode := .running, boot := none }
     (s.notices.mask.getLsbD 0 = false → exec .testComplete s = .next swapped) ∧
     (s.notices.mask.getLsbD 0 = true → Roomy s →
       exec .testComplete s = .next (noticed 0 0x01 ([0x00, byteOf slot] ++ wordBytes generation)
         { swapped with notices := { s.notices with bootDone := .queued, bootOutcome := none } })) ∧
     (s.notices.mask.getLsbD 0 = true → 4 ≤ s.localQ.length →
       exec .testComplete s = .next { swapped with
         notices := { s.notices with bootDone := .pending, bootOutcome := some (.loaded slot generation) } }))

/-- A free place of the local queue goes to the first pending notice.
NOTICE_FORMED forms the first pending notice in the order COPY_DONE, VALIDATE_DONE, COMMIT_DONE, LOAD_DONE, SAVE_DONE,
ERASE_DONE, DIRECTORY_DONE, BOOT_DONE, OVERRUN, SEQUENCE, no kind earlier in that order being pending: a completion with its
kept tag and data, whose follower becomes pending, or an unsolicited kind with tag 00h and its record, which is then cleared,
the kind being QUEUED. Without a place, or with nothing pending, nothing changes. -/
def Obligations.FirstPendingNoticeTakesThePlace : Prop :=
  (∀ k : CompletionKind, (k.index.val, k.code) =
     match k with
     | .copyDone => (0, (0x10 : Byte))
     | .validateDone => (1, 0x11)
     | .commitDone => (2, 0x12)
     | .loadDone => (3, 0x20)
     | .saveDone => (4, 0x21)
     | .eraseDone => (5, 0x22)
     | .directoryDone => (6, 0x23)) ∧
  (∀ s : State, s.held = false →
     let noCompletion : Prop := ∀ i : Fin 7, (s.notices.completions[i]).pending = none
     (∀ (k : CompletionKind) (n : CompletionNotice), s.localQ.length < 4 → (s.notices.completions[k.index]).pending = some n →
       (∀ i : Fin 7, i < k.index → (s.notices.completions[i]).pending = none) →
       exec .noticeFormed s = .next (noticed n.tag k.code n.what.data { s with
         notices := { s.notices with
           completions := s.notices.completions.set k.index
             { pending := (s.notices.completions[k.index]).follower, follower := none } } })) ∧
     (∀ o, s.localQ.length < 4 → noCompletion → s.notices.bootDone = .pending → s.notices.bootOutcome = some o →
       let data : List Byte := match o with
         | .loaded slot generation => [0x00, byteOf slot] ++ wordBytes generation
         | .empty => [0x01, 0xFF, 0x00, 0x00, 0x00, 0x00]
         | .kept => [0x02, 0xFF, 0x00, 0x00, 0x00, 0x00]
       exec .noticeFormed s = .next (noticed 0 0x01 data { s with
         notices := { s.notices with bootDone := .queued, bootOutcome := none } })) ∧
     (s.localQ.length < 4 → noCompletion → s.notices.bootDone ≠ .pending → s.notices.overrun = .pending →
       exec .noticeFormed s = .next (noticed 0 0x02 (wordBytes s.counters.uOverrun) { s with
         notices := { s.notices with overrun := .queued, overrunSet := false } })) ∧
     (s.localQ.length < 4 → noCompletion → s.notices.bootDone ≠ .pending → s.notices.overrun ≠ .pending →
       s.notices.sequence = .pending →
       exec .noticeFormed s = .next (noticed 0 0x03 (halfBytes s.notices.accumulator) { s with
         notices := { s.notices with sequence := .queued, accumulator := 0 } })) ∧
     (s.notices.firstPending = none ↔
       noCompletion ∧ s.notices.bootDone ≠ .pending ∧ s.notices.overrun ≠ .pending ∧ s.notices.sequence ≠ .pending) ∧
     ((4 ≤ s.localQ.length ∨ s.notices.firstPending = none) → exec .noticeFormed s = .next s))

/-! ### Invariants that every step keeps -/

/-- The state after reset meets every invariant of the model.
State.reset meets all the invariants of the statements below: bounded queues, conserved forward frames, the binding, the bank
in service, curve spans, control states, flow control, notices, the restart handshake and the generations. What the store
holds at reset is the model's choice (log 2). -/
def Obligations.ResetMeetsTheInvariants : Prop :=
  QueuesBounded State.reset ∧ ForwardSound State.reset ∧ BindingSound State.reset ∧ ActiveSound State.reset ∧
    BanksSound State.reset ∧ ControlSound State.reset ∧ FlowSound State.reset ∧ NoticesSound State.reset ∧
    RestartSound State.reset ∧ StoreSound State.reset

/-- No queue outgrows its places, and the upstream hold goes with the occupancy, after every step.
If the queues hold no more than their places and the receivers no more than 72 bytes, so they do after a step. If the refresh
timer runs exactly while ASSERTED, and out of hard reset the occupancy is above 2 while ASSERTED and below 6 while QUIET, so
it is after a step. -/
def Obligations.StepKeepsQueuesAndUpstreamHold : Prop :=
  (∀ s t : State, QueuesBounded s → step s = .next t → QueuesBounded t) ∧
  (∀ s t : State, FlowSound s → step s = .next t → FlowSound t)

/-- U_ACCEPTED equals D_FORWARDED + BLOCKED + DUPLICATES + the frames held, after every step.
If the intake is CORRECTING exactly while the stage holds a frame, and out of hard reset the equality holds modulo 2^32 with
the frame at intake or in the stage counted once, so it is after every step, of every command. -/
def Obligations.StepConservesForwardFrames : Prop :=
  ∀ s t : State, ForwardSound s → step s = .next t → ForwardSound t

/-- A frame in the correction stage stays bound to the ACTIVE bank, after every step.
If the intake is CORRECTING exactly while the stage holds a frame, and a bound or stalled frame is bound to the bank that is
ACTIVE, in which a bound frame's group is PROCESS, so it is after every step: no swap falls inside a frame. -/
def Obligations.StepKeepsTheBinding : Prop :=
  ∀ s t : State, BindingSound s → step s = .next t → BindingSound t

/-- The ACTIVE bank is valid after every step, and no command writes the bank that is ACTIVE.
If the ACTIVE bank passes the test with the emit counts that it records, and so does a shadow that is ARMED, so it is after
every step. No command but the release of a hard reset changes the content of the bank that is ACTIVE when the command is
taken. -/
def Obligations.ActiveBankIsValidAndNeverWritten : Prop :=
  (∀ s t : State, ActiveSound s → step s = .next t → ActiveSound t) ∧
  (∀ (c : Instr) (s t : State), (∀ p, c ≠ .hardResetRelease p) → exec c s = .next t → bankNamed t s.active = activeBank s)

/-- Every defined curve of both banks keeps its ranges and its span in the pool, after every step.
If every defined curve of both banks has 2 to 16 points and start + count at most 256, so it is after every step, loads
included. -/
def Obligations.StepKeepsCurveSpansInThePool : Prop :=
  ∀ s t : State, BanksSound s → step s = .next t → BanksSound t

/-- Shadow, commit record, store operation and boot record go together, after every step.
If a commit record is held exactly while a commit is in progress with its tag and timer as its origin and state say, the
shadow is LOADING exactly while the store loads, and a boot record is held exactly while BOOTING with each phase's work in
progress and no slot tried twice, so it is after every step. -/
def Obligations.StepKeepsControlStatesTogether : Prop :=
  ∀ s t : State, ControlSound s → step s = .next t → ControlSound t

/-- The local queue holds one notice of an unsolicited kind while it is QUEUED and none otherwise, after every step.
With the control states together, if out of hard reset the local queue holds exactly one notice of each QUEUED unsolicited
kind and none of the others, and BOOT_DONE is IDLE while a scan or a boot is in progress, so it is after every step. -/
def Obligations.StepKeepsOneNoticePerKind : Prop :=
  ∀ s t : State, ControlSound s → NoticesSound s → step s = .next t → NoticesSound t

/-- The engine is RESTARTING exactly while one OK response to a RESTART is on its way, after every step.
If out of hard reset an IDLE or HOLDING engine has no OK response to a RESTART in the local queue or in transmission, a
RESTARTING one exactly one, and a HOLDING engine holds a frame, with the form of a restart exactly beside such a response, so
it is after every step. -/
def Obligations.StepKeepsTheRestartHandshake : Prop :=
  ∀ s t : State, RestartSound s → step s = .next t → RestartSound t

/-- Generations stay distinct, and a save or erase in progress has an unprotected INCOMPLETE slot, after every step.
With the control states together, if no two VALID or DAMAGED slots share a generation in table and store, a save in progress
will commit a greater one, a save or erase works on an unprotected INCOMPLETE slot, and the table shows the headers of the
store outside a scan, so it is after every step. That no header comes to read otherwise than it was written is the model's
choice (log 16). -/
def Obligations.StepKeepsGenerationsDistinct : Prop :=
  ∀ s t : State, ControlSound s → StoreSound s → step s = .next t → StoreSound t
end

