-- ==== Sys2Proof/Laws/State.lean ====
section
/-! SUPPORT. One lemma per field of State for each named update, true by unfolding, so that no later proof unfolds a record update. -/

namespace Sys2Proof.Machine

/-! ### pushLocal -/

@[simp] theorem pushLocal_pending (f : LocalFrame) (s : State) : (pushLocal f s).pending = s.pending := rfl
@[simp] theorem pushLocal_held (f : LocalFrame) (s : State) : (pushLocal f s).held = s.held := rfl
@[simp] theorem pushLocal_pins (f : LocalFrame) (s : State) : (pushLocal f s).pins = s.pins := rfl
@[simp] theorem pushLocal_mode (f : LocalFrame) (s : State) : (pushLocal f s).mode = s.mode := rfl
@[simp] theorem pushLocal_boot (f : LocalFrame) (s : State) : (pushLocal f s).boot = s.boot := rfl
@[simp] theorem pushLocal_uRx (f : LocalFrame) (s : State) : (pushLocal f s).uRx = s.uRx := rfl
@[simp] theorem pushLocal_dRx (f : LocalFrame) (s : State) : (pushLocal f s).dRx = s.dRx := rfl
@[simp] theorem pushLocal_ingress (f : LocalFrame) (s : State) : (pushLocal f s).ingress = s.ingress := rfl
@[simp] theorem pushLocal_intake (f : LocalFrame) (s : State) : (pushLocal f s).intake = s.intake := rfl
@[simp] theorem pushLocal_stage (f : LocalFrame) (s : State) : (pushLocal f s).stage = s.stage := rfl
@[simp] theorem pushLocal_trackers (f : LocalFrame) (s : State) : (pushLocal f s).trackers = s.trackers := rfl
@[simp] theorem pushLocal_slotCounts (f : LocalFrame) (s : State) : (pushLocal f s).slotCounts = s.slotCounts := rfl
@[simp] theorem pushLocal_groupCounts (f : LocalFrame) (s : State) : (pushLocal f s).groupCounts = s.groupCounts := rfl
@[simp] theorem pushLocal_egress (f : LocalFrame) (s : State) : (pushLocal f s).egress = s.egress := rfl
@[simp] theorem pushLocal_localQ (f : LocalFrame) (s : State) : (pushLocal f s).localQ = s.localQ ++ [f] := rfl
@[simp] theorem pushLocal_dTx (f : LocalFrame) (s : State) : (pushLocal f s).dTx = s.dTx := rfl
@[simp] theorem pushLocal_uTx (f : LocalFrame) (s : State) : (pushLocal f s).uTx = s.uTx := rfl
@[simp] theorem pushLocal_flow (f : LocalFrame) (s : State) : (pushLocal f s).flow = s.flow := rfl
@[simp] theorem pushLocal_counters (f : LocalFrame) (s : State) : (pushLocal f s).counters = s.counters := rfl
@[simp] theorem pushLocal_address (f : LocalFrame) (s : State) : (pushLocal f s).address = s.address := rfl
@[simp] theorem pushLocal_requestQ (f : LocalFrame) (s : State) : (pushLocal f s).requestQ = s.requestQ := rfl
@[simp] theorem pushLocal_reverseQ (f : LocalFrame) (s : State) : (pushLocal f s).reverseQ = s.reverseQ := rfl
@[simp] theorem pushLocal_engine (f : LocalFrame) (s : State) : (pushLocal f s).engine = s.engine := rfl
@[simp] theorem pushLocal_notices (f : LocalFrame) (s : State) : (pushLocal f s).notices = s.notices := rfl
@[simp] theorem pushLocal_bankA (f : LocalFrame) (s : State) : (pushLocal f s).bankA = s.bankA := rfl
@[simp] theorem pushLocal_bankB (f : LocalFrame) (s : State) : (pushLocal f s).bankB = s.bankB := rfl
@[simp] theorem pushLocal_active (f : LocalFrame) (s : State) : (pushLocal f s).active = s.active := rfl
@[simp] theorem pushLocal_shadow (f : LocalFrame) (s : State) : (pushLocal f s).shadow = s.shadow := rfl
@[simp] theorem pushLocal_commit (f : LocalFrame) (s : State) : (pushLocal f s).commit = s.commit := rfl
@[simp] theorem pushLocal_store (f : LocalFrame) (s : State) : (pushLocal f s).store = s.store := rfl
@[simp] theorem pushLocal_nv (f : LocalFrame) (s : State) : (pushLocal f s).nv = s.nv := rfl
@[simp] theorem pushLocal_freeCount (f : LocalFrame) (s : State) : (pushLocal f s).freeCount = s.freeCount := rfl

/-! ### setRx -/

@[simp] theorem setRx_pending (p : Port) (r : Receiver) (s : State) : (setRx p r s).pending = s.pending := by cases p <;> rfl
@[simp] theorem setRx_held (p : Port) (r : Receiver) (s : State) : (setRx p r s).held = s.held := by cases p <;> rfl
@[simp] theorem setRx_pins (p : Port) (r : Receiver) (s : State) : (setRx p r s).pins = s.pins := by cases p <;> rfl
@[simp] theorem setRx_mode (p : Port) (r : Receiver) (s : State) : (setRx p r s).mode = s.mode := by cases p <;> rfl
@[simp] theorem setRx_boot (p : Port) (r : Receiver) (s : State) : (setRx p r s).boot = s.boot := by cases p <;> rfl
@[simp] theorem setRx_uRx (p : Port) (r : Receiver) (s : State) : (setRx p r s).uRx = if p = .u then r else s.uRx := by cases p <;> rfl
@[simp] theorem setRx_dRx (p : Port) (r : Receiver) (s : State) : (setRx p r s).dRx = if p = .d then r else s.dRx := by cases p <;> rfl
@[simp] theorem setRx_ingress (p : Port) (r : Receiver) (s : State) : (setRx p r s).ingress = s.ingress := by cases p <;> rfl
@[simp] theorem setRx_intake (p : Port) (r : Receiver) (s : State) : (setRx p r s).intake = s.intake := by cases p <;> rfl
@[simp] theorem setRx_stage (p : Port) (r : Receiver) (s : State) : (setRx p r s).stage = s.stage := by cases p <;> rfl
@[simp] theorem setRx_trackers (p : Port) (r : Receiver) (s : State) : (setRx p r s).trackers = s.trackers := by cases p <;> rfl
@[simp] theorem setRx_slotCounts (p : Port) (r : Receiver) (s : State) : (setRx p r s).slotCounts = s.slotCounts := by cases p <;> rfl
@[simp] theorem setRx_groupCounts (p : Port) (r : Receiver) (s : State) : (setRx p r s).groupCounts = s.groupCounts := by cases p <;> rfl
@[simp] theorem setRx_egress (p : Port) (r : Receiver) (s : State) : (setRx p r s).egress = s.egress := by cases p <;> rfl
@[simp] theorem setRx_localQ (p : Port) (r : Receiver) (s : State) : (setRx p r s).localQ = s.localQ := by cases p <;> rfl
@[simp] theorem setRx_dTx (p : Port) (r : Receiver) (s : State) : (setRx p r s).dTx = s.dTx := by cases p <;> rfl
@[simp] theorem setRx_uTx (p : Port) (r : Receiver) (s : State) : (setRx p r s).uTx = s.uTx := by cases p <;> rfl
@[simp] theorem setRx_flow (p : Port) (r : Receiver) (s : State) : (setRx p r s).flow = s.flow := by cases p <;> rfl
@[simp] theorem setRx_counters (p : Port) (r : Receiver) (s : State) : (setRx p r s).counters = s.counters := by cases p <;> rfl
@[simp] theorem setRx_address (p : Port) (r : Receiver) (s : State) : (setRx p r s).address = s.address := by cases p <;> rfl
@[simp] theorem setRx_requestQ (p : Port) (r : Receiver) (s : State) : (setRx p r s).requestQ = s.requestQ := by cases p <;> rfl
@[simp] theorem setRx_reverseQ (p : Port) (r : Receiver) (s : State) : (setRx p r s).reverseQ = s.reverseQ := by cases p <;> rfl
@[simp] theorem setRx_engine (p : Port) (r : Receiver) (s : State) : (setRx p r s).engine = s.engine := by cases p <;> rfl
@[simp] theorem setRx_notices (p : Port) (r : Receiver) (s : State) : (setRx p r s).notices = s.notices := by cases p <;> rfl
@[simp] theorem setRx_bankA (p : Port) (r : Receiver) (s : State) : (setRx p r s).bankA = s.bankA := by cases p <;> rfl
@[simp] theorem setRx_bankB (p : Port) (r : Receiver) (s : State) : (setRx p r s).bankB = s.bankB := by cases p <;> rfl
@[simp] theorem setRx_active (p : Port) (r : Receiver) (s : State) : (setRx p r s).active = s.active := by cases p <;> rfl
@[simp] theorem setRx_shadow (p : Port) (r : Receiver) (s : State) : (setRx p r s).shadow = s.shadow := by cases p <;> rfl
@[simp] theorem setRx_commit (p : Port) (r : Receiver) (s : State) : (setRx p r s).commit = s.commit := by cases p <;> rfl
@[simp] theorem setRx_store (p : Port) (r : Receiver) (s : State) : (setRx p r s).store = s.store := by cases p <;> rfl
@[simp] theorem setRx_nv (p : Port) (r : Receiver) (s : State) : (setRx p r s).nv = s.nv := by cases p <;> rfl
@[simp] theorem setRx_freeCount (p : Port) (r : Receiver) (s : State) : (setRx p r s).freeCount = s.freeCount := by cases p <;> rfl

/-! ### countMalformed -/

@[simp] theorem countMalformed_pending (p : Port) (s : State) : (countMalformed p s).pending = s.pending := by cases p <;> rfl
@[simp] theorem countMalformed_held (p : Port) (s : State) : (countMalformed p s).held = s.held := by cases p <;> rfl
@[simp] theorem countMalformed_pins (p : Port) (s : State) : (countMalformed p s).pins = s.pins := by cases p <;> rfl
@[simp] theorem countMalformed_mode (p : Port) (s : State) : (countMalformed p s).mode = s.mode := by cases p <;> rfl
@[simp] theorem countMalformed_boot (p : Port) (s : State) : (countMalformed p s).boot = s.boot := by cases p <;> rfl
@[simp] theorem countMalformed_uRx (p : Port) (s : State) : (countMalformed p s).uRx = s.uRx := by cases p <;> rfl
@[simp] theorem countMalformed_dRx (p : Port) (s : State) : (countMalformed p s).dRx = s.dRx := by cases p <;> rfl
@[simp] theorem countMalformed_ingress (p : Port) (s : State) : (countMalformed p s).ingress = s.ingress := by cases p <;> rfl
@[simp] theorem countMalformed_intake (p : Port) (s : State) : (countMalformed p s).intake = s.intake := by cases p <;> rfl
@[simp] theorem countMalformed_stage (p : Port) (s : State) : (countMalformed p s).stage = s.stage := by cases p <;> rfl
@[simp] theorem countMalformed_trackers (p : Port) (s : State) : (countMalformed p s).trackers = s.trackers := by cases p <;> rfl
@[simp] theorem countMalformed_slotCounts (p : Port) (s : State) : (countMalformed p s).slotCounts = s.slotCounts := by cases p <;> rfl
@[simp] theorem countMalformed_groupCounts (p : Port) (s : State) : (countMalformed p s).groupCounts = s.groupCounts := by cases p <;> rfl
@[simp] theorem countMalformed_egress (p : Port) (s : State) : (countMalformed p s).egress = s.egress := by cases p <;> rfl
@[simp] theorem countMalformed_localQ (p : Port) (s : State) : (countMalformed p s).localQ = s.localQ := by cases p <;> rfl
@[simp] theorem countMalformed_dTx (p : Port) (s : State) : (countMalformed p s).dTx = s.dTx := by cases p <;> rfl
@[simp] theorem countMalformed_uTx (p : Port) (s : State) : (countMalformed p s).uTx = s.uTx := by cases p <;> rfl
@[simp] theorem countMalformed_flow (p : Port) (s : State) : (countMalformed p s).flow = s.flow := by cases p <;> rfl
@[simp] theorem countMalformed_address (p : Port) (s : State) : (countMalformed p s).address = s.address := by cases p <;> rfl
@[simp] theorem countMalformed_requestQ (p : Port) (s : State) : (countMalformed p s).requestQ = s.requestQ := by cases p <;> rfl
@[simp] theorem countMalformed_reverseQ (p : Port) (s : State) : (countMalformed p s).reverseQ = s.reverseQ := by cases p <;> rfl
@[simp] theorem countMalformed_engine (p : Port) (s : State) : (countMalformed p s).engine = s.engine := by cases p <;> rfl
@[simp] theorem countMalformed_notices (p : Port) (s : State) : (countMalformed p s).notices = s.notices := by cases p <;> rfl
@[simp] theorem countMalformed_bankA (p : Port) (s : State) : (countMalformed p s).bankA = s.bankA := by cases p <;> rfl
@[simp] theorem countMalformed_bankB (p : Port) (s : State) : (countMalformed p s).bankB = s.bankB := by cases p <;> rfl
@[simp] theorem countMalformed_active (p : Port) (s : State) : (countMalformed p s).active = s.active := by cases p <;> rfl
@[simp] theorem countMalformed_shadow (p : Port) (s : State) : (countMalformed p s).shadow = s.shadow := by cases p <;> rfl
@[simp] theorem countMalformed_commit (p : Port) (s : State) : (countMalformed p s).commit = s.commit := by cases p <;> rfl
@[simp] theorem countMalformed_store (p : Port) (s : State) : (countMalformed p s).store = s.store := by cases p <;> rfl
@[simp] theorem countMalformed_nv (p : Port) (s : State) : (countMalformed p s).nv = s.nv := by cases p <;> rfl
@[simp] theorem countMalformed_freeCount (p : Port) (s : State) : (countMalformed p s).freeCount = s.freeCount := by cases p <;> rfl

/-! ### countCheckError -/

@[simp] theorem countCheckError_pending (p : Port) (s : State) : (countCheckError p s).pending = s.pending := by cases p <;> rfl
@[simp] theorem countCheckError_held (p : Port) (s : State) : (countCheckError p s).held = s.held := by cases p <;> rfl
@[simp] theorem countCheckError_pins (p : Port) (s : State) : (countCheckError p s).pins = s.pins := by cases p <;> rfl
@[simp] theorem countCheckError_mode (p : Port) (s : State) : (countCheckError p s).mode = s.mode := by cases p <;> rfl
@[simp] theorem countCheckError_boot (p : Port) (s : State) : (countCheckError p s).boot = s.boot := by cases p <;> rfl
@[simp] theorem countCheckError_uRx (p : Port) (s : State) : (countCheckError p s).uRx = s.uRx := by cases p <;> rfl
@[simp] theorem countCheckError_dRx (p : Port) (s : State) : (countCheckError p s).dRx = s.dRx := by cases p <;> rfl
@[simp] theorem countCheckError_ingress (p : Port) (s : State) : (countCheckError p s).ingress = s.ingress := by cases p <;> rfl
@[simp] theorem countCheckError_intake (p : Port) (s : State) : (countCheckError p s).intake = s.intake := by cases p <;> rfl
@[simp] theorem countCheckError_stage (p : Port) (s : State) : (countCheckError p s).stage = s.stage := by cases p <;> rfl
@[simp] theorem countCheckError_trackers (p : Port) (s : State) : (countCheckError p s).trackers = s.trackers := by cases p <;> rfl
@[simp] theorem countCheckError_slotCounts (p : Port) (s : State) : (countCheckError p s).slotCounts = s.slotCounts := by cases p <;> rfl
@[simp] theorem countCheckError_groupCounts (p : Port) (s : State) : (countCheckError p s).groupCounts = s.groupCounts := by cases p <;> rfl
@[simp] theorem countCheckError_egress (p : Port) (s : State) : (countCheckError p s).egress = s.egress := by cases p <;> rfl
@[simp] theorem countCheckError_localQ (p : Port) (s : State) : (countCheckError p s).localQ = s.localQ := by cases p <;> rfl
@[simp] theorem countCheckError_dTx (p : Port) (s : State) : (countCheckError p s).dTx = s.dTx := by cases p <;> rfl
@[simp] theorem countCheckError_uTx (p : Port) (s : State) : (countCheckError p s).uTx = s.uTx := by cases p <;> rfl
@[simp] theorem countCheckError_flow (p : Port) (s : State) : (countCheckError p s).flow = s.flow := by cases p <;> rfl
@[simp] theorem countCheckError_address (p : Port) (s : State) : (countCheckError p s).address = s.address := by cases p <;> rfl
@[simp] theorem countCheckError_requestQ (p : Port) (s : State) : (countCheckError p s).requestQ = s.requestQ := by cases p <;> rfl
@[simp] theorem countCheckError_reverseQ (p : Port) (s : State) : (countCheckError p s).reverseQ = s.reverseQ := by cases p <;> rfl
@[simp] theorem countCheckError_engine (p : Port) (s : State) : (countCheckError p s).engine = s.engine := by cases p <;> rfl
@[simp] theorem countCheckError_notices (p : Port) (s : State) : (countCheckError p s).notices = s.notices := by cases p <;> rfl
@[simp] theorem countCheckError_bankA (p : Port) (s : State) : (countCheckError p s).bankA = s.bankA := by cases p <;> rfl
@[simp] theorem countCheckError_bankB (p : Port) (s : State) : (countCheckError p s).bankB = s.bankB := by cases p <;> rfl
@[simp] theorem countCheckError_active (p : Port) (s : State) : (countCheckError p s).active = s.active := by cases p <;> rfl
@[simp] theorem countCheckError_shadow (p : Port) (s : State) : (countCheckError p s).shadow = s.shadow := by cases p <;> rfl
@[simp] theorem countCheckError_commit (p : Port) (s : State) : (countCheckError p s).commit = s.commit := by cases p <;> rfl
@[simp] theorem countCheckError_store (p : Port) (s : State) : (countCheckError p s).store = s.store := by cases p <;> rfl
@[simp] theorem countCheckError_nv (p : Port) (s : State) : (countCheckError p s).nv = s.nv := by cases p <;> rfl
@[simp] theorem countCheckError_freeCount (p : Port) (s : State) : (countCheckError p s).freeCount = s.freeCount := by cases p <;> rfl

/-! ### acceptReverse -/

@[simp] theorem acceptReverse_pending  (s : State) : (acceptReverse s).pending = s.pending := rfl
@[simp] theorem acceptReverse_held  (s : State) : (acceptReverse s).held = s.held := rfl
@[simp] theorem acceptReverse_pins  (s : State) : (acceptReverse s).pins = s.pins := rfl
@[simp] theorem acceptReverse_mode  (s : State) : (acceptReverse s).mode = s.mode := rfl
@[simp] theorem acceptReverse_boot  (s : State) : (acceptReverse s).boot = s.boot := rfl
@[simp] theorem acceptReverse_uRx  (s : State) : (acceptReverse s).uRx = s.uRx := rfl
@[simp] theorem acceptReverse_dRx  (s : State) : (acceptReverse s).dRx = .idle := rfl
@[simp] theorem acceptReverse_ingress  (s : State) : (acceptReverse s).ingress = s.ingress := rfl
@[simp] theorem acceptReverse_intake  (s : State) : (acceptReverse s).intake = s.intake := rfl
@[simp] theorem acceptReverse_stage  (s : State) : (acceptReverse s).stage = s.stage := rfl
@[simp] theorem acceptReverse_trackers  (s : State) : (acceptReverse s).trackers = s.trackers := rfl
@[simp] theorem acceptReverse_slotCounts  (s : State) : (acceptReverse s).slotCounts = s.slotCounts := rfl
@[simp] theorem acceptReverse_groupCounts  (s : State) : (acceptReverse s).groupCounts = s.groupCounts := rfl
@[simp] theorem acceptReverse_egress  (s : State) : (acceptReverse s).egress = s.egress := rfl
@[simp] theorem acceptReverse_localQ  (s : State) : (acceptReverse s).localQ = s.localQ := rfl
@[simp] theorem acceptReverse_dTx  (s : State) : (acceptReverse s).dTx = s.dTx := rfl
@[simp] theorem acceptReverse_uTx  (s : State) : (acceptReverse s).uTx = s.uTx := rfl
@[simp] theorem acceptReverse_flow  (s : State) : (acceptReverse s).flow = s.flow := rfl
@[simp] theorem acceptReverse_counters  (s : State) : (acceptReverse s).counters = { s.counters with rAccepted := s.counters.rAccepted + 1 } := rfl
@[simp] theorem acceptReverse_address  (s : State) : (acceptReverse s).address = s.address := rfl
@[simp] theorem acceptReverse_requestQ  (s : State) : (acceptReverse s).requestQ = s.requestQ := rfl
@[simp] theorem acceptReverse_reverseQ  (s : State) : (acceptReverse s).reverseQ = s.reverseQ := rfl
@[simp] theorem acceptReverse_engine  (s : State) : (acceptReverse s).engine = s.engine := rfl
@[simp] theorem acceptReverse_notices  (s : State) : (acceptReverse s).notices = s.notices := rfl
@[simp] theorem acceptReverse_bankA  (s : State) : (acceptReverse s).bankA = s.bankA := rfl
@[simp] theorem acceptReverse_bankB  (s : State) : (acceptReverse s).bankB = s.bankB := rfl
@[simp] theorem acceptReverse_active  (s : State) : (acceptReverse s).active = s.active := rfl
@[simp] theorem acceptReverse_shadow  (s : State) : (acceptReverse s).shadow = s.shadow := rfl
@[simp] theorem acceptReverse_commit  (s : State) : (acceptReverse s).commit = s.commit := rfl
@[simp] theorem acceptReverse_store  (s : State) : (acceptReverse s).store = s.store := rfl
@[simp] theorem acceptReverse_nv  (s : State) : (acceptReverse s).nv = s.nv := rfl
@[simp] theorem acceptReverse_freeCount  (s : State) : (acceptReverse s).freeCount = s.freeCount := rfl

/-! ### removeIngressHead -/

@[simp] theorem removeIngressHead_pending (rest : List ForwardFrame) (s : State) : (removeIngressHead rest s).pending = s.pending := rfl
@[simp] theorem removeIngressHead_held (rest : List ForwardFrame) (s : State) : (removeIngressHead rest s).held = s.held := rfl
@[simp] theorem removeIngressHead_pins (rest : List ForwardFrame) (s : State) : (removeIngressHead rest s).pins = s.pins := rfl
@[simp] theorem removeIngressHead_mode (rest : List ForwardFrame) (s : State) : (removeIngressHead rest s).mode = s.mode := rfl
@[simp] theorem removeIngressHead_boot (rest : List ForwardFrame) (s : State) : (removeIngressHead rest s).boot = s.boot := rfl
@[simp] theorem removeIngressHead_uRx (rest : List ForwardFrame) (s : State) : (removeIngressHead rest s).uRx = s.uRx := rfl
@[simp] theorem removeIngressHead_dRx (rest : List ForwardFrame) (s : State) : (removeIngressHead rest s).dRx = s.dRx := rfl
@[simp] theorem removeIngressHead_ingress (rest : List ForwardFrame) (s : State) : (removeIngressHead rest s).ingress = rest := rfl
@[simp] theorem removeIngressHead_intake (rest : List ForwardFrame) (s : State) : (removeIngressHead rest s).intake = s.intake := rfl
@[simp] theorem removeIngressHead_stage (rest : List ForwardFrame) (s : State) : (removeIngressHead rest s).stage = s.stage := rfl
@[simp] theorem removeIngressHead_trackers (rest : List ForwardFrame) (s : State) : (removeIngressHead rest s).trackers = s.trackers := rfl
@[simp] theorem removeIngressHead_slotCounts (rest : List ForwardFrame) (s : State) : (removeIngressHead rest s).slotCounts = s.slotCounts := rfl
@[simp] theorem removeIngressHead_groupCounts (rest : List ForwardFrame) (s : State) : (removeIngressHead rest s).groupCounts = s.groupCounts := rfl
@[simp] theorem removeIngressHead_egress (rest : List ForwardFrame) (s : State) : (removeIngressHead rest s).egress = s.egress := rfl
@[simp] theorem removeIngressHead_localQ (rest : List ForwardFrame) (s : State) : (removeIngressHead rest s).localQ = s.localQ := rfl
@[simp] theorem removeIngressHead_dTx (rest : List ForwardFrame) (s : State) : (removeIngressHead rest s).dTx = s.dTx := rfl
@[simp] theorem removeIngressHead_uTx (rest : List ForwardFrame) (s : State) : (removeIngressHead rest s).uTx = s.uTx := rfl
@[simp] theorem removeIngressHead_flow (rest : List ForwardFrame) (s : State) : (removeIngressHead rest s).flow = flowAfterRemoval s.flow rest.length := rfl
@[simp] theorem removeIngressHead_counters (rest : List ForwardFrame) (s : State) : (removeIngressHead rest s).counters = s.counters := rfl
@[simp] theorem removeIngressHead_address (rest : List ForwardFrame) (s : State) : (removeIngressHead rest s).address = s.address := rfl
@[simp] theorem removeIngressHead_requestQ (rest : List ForwardFrame) (s : State) : (removeIngressHead rest s).requestQ = s.requestQ := rfl
@[simp] theorem removeIngressHead_reverseQ (rest : List ForwardFrame) (s : State) : (removeIngressHead rest s).reverseQ = s.reverseQ := rfl
@[simp] theorem removeIngressHead_engine (rest : List ForwardFrame) (s : State) : (removeIngressHead rest s).engine = s.engine := rfl
@[simp] theorem removeIngressHead_notices (rest : List ForwardFrame) (s : State) : (removeIngressHead rest s).notices = s.notices := rfl
@[simp] theorem removeIngressHead_bankA (rest : List ForwardFrame) (s : State) : (removeIngressHead rest s).bankA = s.bankA := rfl
@[simp] theorem removeIngressHead_bankB (rest : List ForwardFrame) (s : State) : (removeIngressHead rest s).bankB = s.bankB := rfl
@[simp] theorem removeIngressHead_active (rest : List ForwardFrame) (s : State) : (removeIngressHead rest s).active = s.active := rfl
@[simp] theorem removeIngressHead_shadow (rest : List ForwardFrame) (s : State) : (removeIngressHead rest s).shadow = s.shadow := rfl
@[simp] theorem removeIngressHead_commit (rest : List ForwardFrame) (s : State) : (removeIngressHead rest s).commit = s.commit := rfl
@[simp] theorem removeIngressHead_store (rest : List ForwardFrame) (s : State) : (removeIngressHead rest s).store = s.store := rfl
@[simp] theorem removeIngressHead_nv (rest : List ForwardFrame) (s : State) : (removeIngressHead rest s).nv = s.nv := rfl
@[simp] theorem removeIngressHead_freeCount (rest : List ForwardFrame) (s : State) : (removeIngressHead rest s).freeCount = s.freeCount := rfl

/-! ### setShadowBank -/

@[simp] theorem setShadowBank_pending (b : Bank) (s : State) : (setShadowBank b s).pending = s.pending := by unfold setShadowBank; split <;> rfl
@[simp] theorem setShadowBank_held (b : Bank) (s : State) : (setShadowBank b s).held = s.held := by unfold setShadowBank; split <;> rfl
@[simp] theorem setShadowBank_pins (b : Bank) (s : State) : (setShadowBank b s).pins = s.pins := by unfold setShadowBank; split <;> rfl
@[simp] theorem setShadowBank_mode (b : Bank) (s : State) : (setShadowBank b s).mode = s.mode := by unfold setShadowBank; split <;> rfl
@[simp] theorem setShadowBank_boot (b : Bank) (s : State) : (setShadowBank b s).boot = s.boot := by unfold setShadowBank; split <;> rfl
@[simp] theorem setShadowBank_uRx (b : Bank) (s : State) : (setShadowBank b s).uRx = s.uRx := by unfold setShadowBank; split <;> rfl
@[simp] theorem setShadowBank_dRx (b : Bank) (s : State) : (setShadowBank b s).dRx = s.dRx := by unfold setShadowBank; split <;> rfl
@[simp] theorem setShadowBank_ingress (b : Bank) (s : State) : (setShadowBank b s).ingress = s.ingress := by unfold setShadowBank; split <;> rfl
@[simp] theorem setShadowBank_intake (b : Bank) (s : State) : (setShadowBank b s).intake = s.intake := by unfold setShadowBank; split <;> rfl
@[simp] theorem setShadowBank_stage (b : Bank) (s : State) : (setShadowBank b s).stage = s.stage := by unfold setShadowBank; split <;> rfl
@[simp] theorem setShadowBank_trackers (b : Bank) (s : State) : (setShadowBank b s).trackers = s.trackers := by unfold setShadowBank; split <;> rfl
@[simp] theorem setShadowBank_slotCounts (b : Bank) (s : State) : (setShadowBank b s).slotCounts = s.slotCounts := by unfold setShadowBank; split <;> rfl
@[simp] theorem setShadowBank_groupCounts (b : Bank) (s : State) : (setShadowBank b s).groupCounts = s.groupCounts := by unfold setShadowBank; split <;> rfl
@[simp] theorem setShadowBank_egress (b : Bank) (s : State) : (setShadowBank b s).egress = s.egress := by unfold setShadowBank; split <;> rfl
@[simp] theorem setShadowBank_localQ (b : Bank) (s : State) : (setShadowBank b s).localQ = s.localQ := by unfold setShadowBank; split <;> rfl
@[simp] theorem setShadowBank_dTx (b : Bank) (s : State) : (setShadowBank b s).dTx = s.dTx := by unfold setShadowBank; split <;> rfl
@[simp] theorem setShadowBank_uTx (b : Bank) (s : State) : (setShadowBank b s).uTx = s.uTx := by unfold setShadowBank; split <;> rfl
@[simp] theorem setShadowBank_flow (b : Bank) (s : State) : (setShadowBank b s).flow = s.flow := by unfold setShadowBank; split <;> rfl
@[simp] theorem setShadowBank_counters (b : Bank) (s : State) : (setShadowBank b s).counters = s.counters := by unfold setShadowBank; split <;> rfl
@[simp] theorem setShadowBank_address (b : Bank) (s : State) : (setShadowBank b s).address = s.address := by unfold setShadowBank; split <;> rfl
@[simp] theorem setShadowBank_requestQ (b : Bank) (s : State) : (setShadowBank b s).requestQ = s.requestQ := by unfold setShadowBank; split <;> rfl
@[simp] theorem setShadowBank_reverseQ (b : Bank) (s : State) : (setShadowBank b s).reverseQ = s.reverseQ := by unfold setShadowBank; split <;> rfl
@[simp] theorem setShadowBank_engine (b : Bank) (s : State) : (setShadowBank b s).engine = s.engine := by unfold setShadowBank; split <;> rfl
@[simp] theorem setShadowBank_notices (b : Bank) (s : State) : (setShadowBank b s).notices = s.notices := by unfold setShadowBank; split <;> rfl
@[simp] theorem setShadowBank_active (b : Bank) (s : State) : (setShadowBank b s).active = s.active := by unfold setShadowBank; split <;> rfl
@[simp] theorem setShadowBank_shadow (b : Bank) (s : State) : (setShadowBank b s).shadow = s.shadow := by unfold setShadowBank; split <;> rfl
@[simp] theorem setShadowBank_commit (b : Bank) (s : State) : (setShadowBank b s).commit = s.commit := by unfold setShadowBank; split <;> rfl
@[simp] theorem setShadowBank_store (b : Bank) (s : State) : (setShadowBank b s).store = s.store := by unfold setShadowBank; split <;> rfl
@[simp] theorem setShadowBank_nv (b : Bank) (s : State) : (setShadowBank b s).nv = s.nv := by unfold setShadowBank; split <;> rfl
@[simp] theorem setShadowBank_freeCount (b : Bank) (s : State) : (setShadowBank b s).freeCount = s.freeCount := by unfold setShadowBank; split <;> rfl
@[simp] theorem setShadowBank_bankA (b : Bank) (s : State) : (setShadowBank b s).bankA = if s.active = .a then s.bankA else b := by
  unfold setShadowBank; cases h : s.active <;> simp
@[simp] theorem setShadowBank_bankB (b : Bank) (s : State) : (setShadowBank b s).bankB = if s.active = .a then b else s.bankB := by
  unfold setShadowBank; cases h : s.active <;> simp

/-! ### storeIdle -/

@[simp] theorem storeIdle_pending  (s : State) : (storeIdle s).pending = s.pending := rfl
@[simp] theorem storeIdle_held  (s : State) : (storeIdle s).held = s.held := rfl
@[simp] theorem storeIdle_pins  (s : State) : (storeIdle s).pins = s.pins := rfl
@[simp] theorem storeIdle_mode  (s : State) : (storeIdle s).mode = s.mode := rfl
@[simp] theorem storeIdle_boot  (s : State) : (storeIdle s).boot = s.boot := rfl
@[simp] theorem storeIdle_uRx  (s : State) : (storeIdle s).uRx = s.uRx := rfl
@[simp] theorem storeIdle_dRx  (s : State) : (storeIdle s).dRx = s.dRx := rfl
@[simp] theorem storeIdle_ingress  (s : State) : (storeIdle s).ingress = s.ingress := rfl
@[simp] theorem storeIdle_intake  (s : State) : (storeIdle s).intake = s.intake := rfl
@[simp] theorem storeIdle_stage  (s : State) : (storeIdle s).stage = s.stage := rfl
@[simp] theorem storeIdle_trackers  (s : State) : (storeIdle s).trackers = s.trackers := rfl
@[simp] theorem storeIdle_slotCounts  (s : State) : (storeIdle s).slotCounts = s.slotCounts := rfl
@[simp] theorem storeIdle_groupCounts  (s : State) : (storeIdle s).groupCounts = s.groupCounts := rfl
@[simp] theorem storeIdle_egress  (s : State) : (storeIdle s).egress = s.egress := rfl
@[simp] theorem storeIdle_localQ  (s : State) : (storeIdle s).localQ = s.localQ := rfl
@[simp] theorem storeIdle_dTx  (s : State) : (storeIdle s).dTx = s.dTx := rfl
@[simp] theorem storeIdle_uTx  (s : State) : (storeIdle s).uTx = s.uTx := rfl
@[simp] theorem storeIdle_flow  (s : State) : (storeIdle s).flow = s.flow := rfl
@[simp] theorem storeIdle_counters  (s : State) : (storeIdle s).counters = s.counters := rfl
@[simp] theorem storeIdle_address  (s : State) : (storeIdle s).address = s.address := rfl
@[simp] theorem storeIdle_requestQ  (s : State) : (storeIdle s).requestQ = s.requestQ := rfl
@[simp] theorem storeIdle_reverseQ  (s : State) : (storeIdle s).reverseQ = s.reverseQ := rfl
@[simp] theorem storeIdle_engine  (s : State) : (storeIdle s).engine = s.engine := rfl
@[simp] theorem storeIdle_notices  (s : State) : (storeIdle s).notices = s.notices := rfl
@[simp] theorem storeIdle_bankA  (s : State) : (storeIdle s).bankA = s.bankA := rfl
@[simp] theorem storeIdle_bankB  (s : State) : (storeIdle s).bankB = s.bankB := rfl
@[simp] theorem storeIdle_active  (s : State) : (storeIdle s).active = s.active := rfl
@[simp] theorem storeIdle_shadow  (s : State) : (storeIdle s).shadow = s.shadow := rfl
@[simp] theorem storeIdle_commit  (s : State) : (storeIdle s).commit = s.commit := rfl
@[simp] theorem storeIdle_store  (s : State) : (storeIdle s).store = { s.store with op := none } := rfl
@[simp] theorem storeIdle_nv  (s : State) : (storeIdle s).nv = s.nv := rfl
@[simp] theorem storeIdle_freeCount  (s : State) : (storeIdle s).freeCount = s.freeCount := rfl

/-! ### setEntry -/

@[simp] theorem setEntry_pending (slot : Fin 4) (e : SlotEntry) (s : State) : (setEntry slot e s).pending = s.pending := rfl
@[simp] theorem setEntry_held (slot : Fin 4) (e : SlotEntry) (s : State) : (setEntry slot e s).held = s.held := rfl
@[simp] theorem setEntry_pins (slot : Fin 4) (e : SlotEntry) (s : State) : (setEntry slot e s).pins = s.pins := rfl
@[simp] theorem setEntry_mode (slot : Fin 4) (e : SlotEntry) (s : State) : (setEntry slot e s).mode = s.mode := rfl
@[simp] theorem setEntry_boot (slot : Fin 4) (e : SlotEntry) (s : State) : (setEntry slot e s).boot = s.boot := rfl
@[simp] theorem setEntry_uRx (slot : Fin 4) (e : SlotEntry) (s : State) : (setEntry slot e s).uRx = s.uRx := rfl
@[simp] theorem setEntry_dRx (slot : Fin 4) (e : SlotEntry) (s : State) : (setEntry slot e s).dRx = s.dRx := rfl
@[simp] theorem setEntry_ingress (slot : Fin 4) (e : SlotEntry) (s : State) : (setEntry slot e s).ingress = s.ingress := rfl
@[simp] theorem setEntry_intake (slot : Fin 4) (e : SlotEntry) (s : State) : (setEntry slot e s).intake = s.intake := rfl
@[simp] theorem setEntry_stage (slot : Fin 4) (e : SlotEntry) (s : State) : (setEntry slot e s).stage = s.stage := rfl
@[simp] theorem setEntry_trackers (slot : Fin 4) (e : SlotEntry) (s : State) : (setEntry slot e s).trackers = s.trackers := rfl
@[simp] theorem setEntry_slotCounts (slot : Fin 4) (e : SlotEntry) (s : State) : (setEntry slot e s).slotCounts = s.slotCounts := rfl
@[simp] theorem setEntry_groupCounts (slot : Fin 4) (e : SlotEntry) (s : State) : (setEntry slot e s).groupCounts = s.groupCounts := rfl
@[simp] theorem setEntry_egress (slot : Fin 4) (e : SlotEntry) (s : State) : (setEntry slot e s).egress = s.egress := rfl
@[simp] theorem setEntry_localQ (slot : Fin 4) (e : SlotEntry) (s : State) : (setEntry slot e s).localQ = s.localQ := rfl
@[simp] theorem setEntry_dTx (slot : Fin 4) (e : SlotEntry) (s : State) : (setEntry slot e s).dTx = s.dTx := rfl
@[simp] theorem setEntry_uTx (slot : Fin 4) (e : SlotEntry) (s : State) : (setEntry slot e s).uTx = s.uTx := rfl
@[simp] theorem setEntry_flow (slot : Fin 4) (e : SlotEntry) (s : State) : (setEntry slot e s).flow = s.flow := rfl
@[simp] theorem setEntry_counters (slot : Fin 4) (e : SlotEntry) (s : State) : (setEntry slot e s).counters = s.counters := rfl
@[simp] theorem setEntry_address (slot : Fin 4) (e : SlotEntry) (s : State) : (setEntry slot e s).address = s.address := rfl
@[simp] theorem setEntry_requestQ (slot : Fin 4) (e : SlotEntry) (s : State) : (setEntry slot e s).requestQ = s.requestQ := rfl
@[simp] theorem setEntry_reverseQ (slot : Fin 4) (e : SlotEntry) (s : State) : (setEntry slot e s).reverseQ = s.reverseQ := rfl
@[simp] theorem setEntry_engine (slot : Fin 4) (e : SlotEntry) (s : State) : (setEntry slot e s).engine = s.engine := rfl
@[simp] theorem setEntry_notices (slot : Fin 4) (e : SlotEntry) (s : State) : (setEntry slot e s).notices = s.notices := rfl
@[simp] theorem setEntry_bankA (slot : Fin 4) (e : SlotEntry) (s : State) : (setEntry slot e s).bankA = s.bankA := rfl
@[simp] theorem setEntry_bankB (slot : Fin 4) (e : SlotEntry) (s : State) : (setEntry slot e s).bankB = s.bankB := rfl
@[simp] theorem setEntry_active (slot : Fin 4) (e : SlotEntry) (s : State) : (setEntry slot e s).active = s.active := rfl
@[simp] theorem setEntry_shadow (slot : Fin 4) (e : SlotEntry) (s : State) : (setEntry slot e s).shadow = s.shadow := rfl
@[simp] theorem setEntry_commit (slot : Fin 4) (e : SlotEntry) (s : State) : (setEntry slot e s).commit = s.commit := rfl
@[simp] theorem setEntry_store (slot : Fin 4) (e : SlotEntry) (s : State) : (setEntry slot e s).store = { s.store with table := s.store.table.set slot e } := rfl
@[simp] theorem setEntry_nv (slot : Fin 4) (e : SlotEntry) (s : State) : (setEntry slot e s).nv = s.nv := rfl
@[simp] theorem setEntry_freeCount (slot : Fin 4) (e : SlotEntry) (s : State) : (setEntry slot e s).freeCount = s.freeCount := rfl

/-! ### setNvSlot -/

@[simp] theorem setNvSlot_pending (slot : Fin 4) (v : NvSlot) (s : State) : (setNvSlot slot v s).pending = s.pending := rfl
@[simp] theorem setNvSlot_held (slot : Fin 4) (v : NvSlot) (s : State) : (setNvSlot slot v s).held = s.held := rfl
@[simp] theorem setNvSlot_pins (slot : Fin 4) (v : NvSlot) (s : State) : (setNvSlot slot v s).pins = s.pins := rfl
@[simp] theorem setNvSlot_mode (slot : Fin 4) (v : NvSlot) (s : State) : (setNvSlot slot v s).mode = s.mode := rfl
@[simp] theorem setNvSlot_boot (slot : Fin 4) (v : NvSlot) (s : State) : (setNvSlot slot v s).boot = s.boot := rfl
@[simp] theorem setNvSlot_uRx (slot : Fin 4) (v : NvSlot) (s : State) : (setNvSlot slot v s).uRx = s.uRx := rfl
@[simp] theorem setNvSlot_dRx (slot : Fin 4) (v : NvSlot) (s : State) : (setNvSlot slot v s).dRx = s.dRx := rfl
@[simp] theorem setNvSlot_ingress (slot : Fin 4) (v : NvSlot) (s : State) : (setNvSlot slot v s).ingress = s.ingress := rfl
@[simp] theorem setNvSlot_intake (slot : Fin 4) (v : NvSlot) (s : State) : (setNvSlot slot v s).intake = s.intake := rfl
@[simp] theorem setNvSlot_stage (slot : Fin 4) (v : NvSlot) (s : State) : (setNvSlot slot v s).stage = s.stage := rfl
@[simp] theorem setNvSlot_trackers (slot : Fin 4) (v : NvSlot) (s : State) : (setNvSlot slot v s).trackers = s.trackers := rfl
@[simp] theorem setNvSlot_slotCounts (slot : Fin 4) (v : NvSlot) (s : State) : (setNvSlot slot v s).slotCounts = s.slotCounts := rfl
@[simp] theorem setNvSlot_groupCounts (slot : Fin 4) (v : NvSlot) (s : State) : (setNvSlot slot v s).groupCounts = s.groupCounts := rfl
@[simp] theorem setNvSlot_egress (slot : Fin 4) (v : NvSlot) (s : State) : (setNvSlot slot v s).egress = s.egress := rfl
@[simp] theorem setNvSlot_localQ (slot : Fin 4) (v : NvSlot) (s : State) : (setNvSlot slot v s).localQ = s.localQ := rfl
@[simp] theorem setNvSlot_dTx (slot : Fin 4) (v : NvSlot) (s : State) : (setNvSlot slot v s).dTx = s.dTx := rfl
@[simp] theorem setNvSlot_uTx (slot : Fin 4) (v : NvSlot) (s : State) : (setNvSlot slot v s).uTx = s.uTx := rfl
@[simp] theorem setNvSlot_flow (slot : Fin 4) (v : NvSlot) (s : State) : (setNvSlot slot v s).flow = s.flow := rfl
@[simp] theorem setNvSlot_counters (slot : Fin 4) (v : NvSlot) (s : State) : (setNvSlot slot v s).counters = s.counters := rfl
@[simp] theorem setNvSlot_address (slot : Fin 4) (v : NvSlot) (s : State) : (setNvSlot slot v s).address = s.address := rfl
@[simp] theorem setNvSlot_requestQ (slot : Fin 4) (v : NvSlot) (s : State) : (setNvSlot slot v s).requestQ = s.requestQ := rfl
@[simp] theorem setNvSlot_reverseQ (slot : Fin 4) (v : NvSlot) (s : State) : (setNvSlot slot v s).reverseQ = s.reverseQ := rfl
@[simp] theorem setNvSlot_engine (slot : Fin 4) (v : NvSlot) (s : State) : (setNvSlot slot v s).engine = s.engine := rfl
@[simp] theorem setNvSlot_notices (slot : Fin 4) (v : NvSlot) (s : State) : (setNvSlot slot v s).notices = s.notices := rfl
@[simp] theorem setNvSlot_bankA (slot : Fin 4) (v : NvSlot) (s : State) : (setNvSlot slot v s).bankA = s.bankA := rfl
@[simp] theorem setNvSlot_bankB (slot : Fin 4) (v : NvSlot) (s : State) : (setNvSlot slot v s).bankB = s.bankB := rfl
@[simp] theorem setNvSlot_active (slot : Fin 4) (v : NvSlot) (s : State) : (setNvSlot slot v s).active = s.active := rfl
@[simp] theorem setNvSlot_shadow (slot : Fin 4) (v : NvSlot) (s : State) : (setNvSlot slot v s).shadow = s.shadow := rfl
@[simp] theorem setNvSlot_commit (slot : Fin 4) (v : NvSlot) (s : State) : (setNvSlot slot v s).commit = s.commit := rfl
@[simp] theorem setNvSlot_store (slot : Fin 4) (v : NvSlot) (s : State) : (setNvSlot slot v s).store = s.store := rfl
@[simp] theorem setNvSlot_nv (slot : Fin 4) (v : NvSlot) (s : State) : (setNvSlot slot v s).nv = s.nv.setSlot slot v := rfl
@[simp] theorem setNvSlot_freeCount (slot : Fin 4) (v : NvSlot) (s : State) : (setNvSlot slot v s).freeCount = s.freeCount := rfl

/-! ### markIncomplete -/

@[simp] theorem markIncomplete_pending (slot : Fin 4) (s : State) : (markIncomplete slot s).pending = s.pending := rfl
@[simp] theorem markIncomplete_held (slot : Fin 4) (s : State) : (markIncomplete slot s).held = s.held := rfl
@[simp] theorem markIncomplete_pins (slot : Fin 4) (s : State) : (markIncomplete slot s).pins = s.pins := rfl
@[simp] theorem markIncomplete_mode (slot : Fin 4) (s : State) : (markIncomplete slot s).mode = s.mode := rfl
@[simp] theorem markIncomplete_boot (slot : Fin 4) (s : State) : (markIncomplete slot s).boot = s.boot := rfl
@[simp] theorem markIncomplete_uRx (slot : Fin 4) (s : State) : (markIncomplete slot s).uRx = s.uRx := rfl
@[simp] theorem markIncomplete_dRx (slot : Fin 4) (s : State) : (markIncomplete slot s).dRx = s.dRx := rfl
@[simp] theorem markIncomplete_ingress (slot : Fin 4) (s : State) : (markIncomplete slot s).ingress = s.ingress := rfl
@[simp] theorem markIncomplete_intake (slot : Fin 4) (s : State) : (markIncomplete slot s).intake = s.intake := rfl
@[simp] theorem markIncomplete_stage (slot : Fin 4) (s : State) : (markIncomplete slot s).stage = s.stage := rfl
@[simp] theorem markIncomplete_trackers (slot : Fin 4) (s : State) : (markIncomplete slot s).trackers = s.trackers := rfl
@[simp] theorem markIncomplete_slotCounts (slot : Fin 4) (s : State) : (markIncomplete slot s).slotCounts = s.slotCounts := rfl
@[simp] theorem markIncomplete_groupCounts (slot : Fin 4) (s : State) : (markIncomplete slot s).groupCounts = s.groupCounts := rfl
@[simp] theorem markIncomplete_egress (slot : Fin 4) (s : State) : (markIncomplete slot s).egress = s.egress := rfl
@[simp] theorem markIncomplete_localQ (slot : Fin 4) (s : State) : (markIncomplete slot s).localQ = s.localQ := rfl
@[simp] theorem markIncomplete_dTx (slot : Fin 4) (s : State) : (markIncomplete slot s).dTx = s.dTx := rfl
@[simp] theorem markIncomplete_uTx (slot : Fin 4) (s : State) : (markIncomplete slot s).uTx = s.uTx := rfl
@[simp] theorem markIncomplete_flow (slot : Fin 4) (s : State) : (markIncomplete slot s).flow = s.flow := rfl
@[simp] theorem markIncomplete_counters (slot : Fin 4) (s : State) : (markIncomplete slot s).counters = s.counters := rfl
@[simp] theorem markIncomplete_address (slot : Fin 4) (s : State) : (markIncomplete slot s).address = s.address := rfl
@[simp] theorem markIncomplete_requestQ (slot : Fin 4) (s : State) : (markIncomplete slot s).requestQ = s.requestQ := rfl
@[simp] theorem markIncomplete_reverseQ (slot : Fin 4) (s : State) : (markIncomplete slot s).reverseQ = s.reverseQ := rfl
@[simp] theorem markIncomplete_engine (slot : Fin 4) (s : State) : (markIncomplete slot s).engine = s.engine := rfl
@[simp] theorem markIncomplete_notices (slot : Fin 4) (s : State) : (markIncomplete slot s).notices = s.notices := rfl
@[simp] theorem markIncomplete_bankA (slot : Fin 4) (s : State) : (markIncomplete slot s).bankA = s.bankA := rfl
@[simp] theorem markIncomplete_bankB (slot : Fin 4) (s : State) : (markIncomplete slot s).bankB = s.bankB := rfl
@[simp] theorem markIncomplete_active (slot : Fin 4) (s : State) : (markIncomplete slot s).active = s.active := rfl
@[simp] theorem markIncomplete_shadow (slot : Fin 4) (s : State) : (markIncomplete slot s).shadow = s.shadow := rfl
@[simp] theorem markIncomplete_commit (slot : Fin 4) (s : State) : (markIncomplete slot s).commit = s.commit := rfl
@[simp] theorem markIncomplete_store (slot : Fin 4) (s : State) : (markIncomplete slot s).store = { s.store with table := s.store.table.set slot .incomplete } := rfl
@[simp] theorem markIncomplete_nv (slot : Fin 4) (s : State) : (markIncomplete slot s).nv = s.nv.setSlot slot { s.nv.slots[slot] with header := .incomplete } := rfl
@[simp] theorem markIncomplete_freeCount (slot : Fin 4) (s : State) : (markIncomplete slot s).freeCount = s.freeCount := rfl

/-! ### endLoad -/

@[simp] theorem endLoad_pending (slot : Fin 4) (s : State) : (endLoad slot s).pending = s.pending := rfl
@[simp] theorem endLoad_held (slot : Fin 4) (s : State) : (endLoad slot s).held = s.held := rfl
@[simp] theorem endLoad_pins (slot : Fin 4) (s : State) : (endLoad slot s).pins = s.pins := rfl
@[simp] theorem endLoad_mode (slot : Fin 4) (s : State) : (endLoad slot s).mode = s.mode := rfl
@[simp] theorem endLoad_boot (slot : Fin 4) (s : State) : (endLoad slot s).boot = s.boot := rfl
@[simp] theorem endLoad_uRx (slot : Fin 4) (s : State) : (endLoad slot s).uRx = s.uRx := rfl
@[simp] theorem endLoad_dRx (slot : Fin 4) (s : State) : (endLoad slot s).dRx = s.dRx := rfl
@[simp] theorem endLoad_ingress (slot : Fin 4) (s : State) : (endLoad slot s).ingress = s.ingress := rfl
@[simp] theorem endLoad_intake (slot : Fin 4) (s : State) : (endLoad slot s).intake = s.intake := rfl
@[simp] theorem endLoad_stage (slot : Fin 4) (s : State) : (endLoad slot s).stage = s.stage := rfl
@[simp] theorem endLoad_trackers (slot : Fin 4) (s : State) : (endLoad slot s).trackers = s.trackers := rfl
@[simp] theorem endLoad_slotCounts (slot : Fin 4) (s : State) : (endLoad slot s).slotCounts = s.slotCounts := rfl
@[simp] theorem endLoad_groupCounts (slot : Fin 4) (s : State) : (endLoad slot s).groupCounts = s.groupCounts := rfl
@[simp] theorem endLoad_egress (slot : Fin 4) (s : State) : (endLoad slot s).egress = s.egress := rfl
@[simp] theorem endLoad_localQ (slot : Fin 4) (s : State) : (endLoad slot s).localQ = s.localQ := rfl
@[simp] theorem endLoad_dTx (slot : Fin 4) (s : State) : (endLoad slot s).dTx = s.dTx := rfl
@[simp] theorem endLoad_uTx (slot : Fin 4) (s : State) : (endLoad slot s).uTx = s.uTx := rfl
@[simp] theorem endLoad_flow (slot : Fin 4) (s : State) : (endLoad slot s).flow = s.flow := rfl
@[simp] theorem endLoad_counters (slot : Fin 4) (s : State) : (endLoad slot s).counters = s.counters := rfl
@[simp] theorem endLoad_address (slot : Fin 4) (s : State) : (endLoad slot s).address = s.address := rfl
@[simp] theorem endLoad_requestQ (slot : Fin 4) (s : State) : (endLoad slot s).requestQ = s.requestQ := rfl
@[simp] theorem endLoad_reverseQ (slot : Fin 4) (s : State) : (endLoad slot s).reverseQ = s.reverseQ := rfl
@[simp] theorem endLoad_engine (slot : Fin 4) (s : State) : (endLoad slot s).engine = s.engine := rfl
@[simp] theorem endLoad_notices (slot : Fin 4) (s : State) : (endLoad slot s).notices = s.notices := rfl
@[simp] theorem endLoad_bankA (slot : Fin 4) (s : State) : (endLoad slot s).bankA = s.bankA := rfl
@[simp] theorem endLoad_bankB (slot : Fin 4) (s : State) : (endLoad slot s).bankB = s.bankB := rfl
@[simp] theorem endLoad_active (slot : Fin 4) (s : State) : (endLoad slot s).active = s.active := rfl
@[simp] theorem endLoad_shadow (slot : Fin 4) (s : State) : (endLoad slot s).shadow = .editable := rfl
@[simp] theorem endLoad_commit (slot : Fin 4) (s : State) : (endLoad slot s).commit = s.commit := rfl
@[simp] theorem endLoad_store (slot : Fin 4) (s : State) : (endLoad slot s).store = { s.store with op := none, buffer := s.nv.slots[slot].body } := rfl
@[simp] theorem endLoad_nv (slot : Fin 4) (s : State) : (endLoad slot s).nv = s.nv := rfl
@[simp] theorem endLoad_freeCount (slot : Fin 4) (s : State) : (endLoad slot s).freeCount = s.freeCount := rfl

/-! ### scanned -/

@[simp] theorem scanned_pending  (s : State) : (scanned s).pending = s.pending := rfl
@[simp] theorem scanned_held  (s : State) : (scanned s).held = s.held := rfl
@[simp] theorem scanned_pins  (s : State) : (scanned s).pins = s.pins := rfl
@[simp] theorem scanned_mode  (s : State) : (scanned s).mode = s.mode := rfl
@[simp] theorem scanned_boot  (s : State) : (scanned s).boot = s.boot := rfl
@[simp] theorem scanned_uRx  (s : State) : (scanned s).uRx = s.uRx := rfl
@[simp] theorem scanned_dRx  (s : State) : (scanned s).dRx = s.dRx := rfl
@[simp] theorem scanned_ingress  (s : State) : (scanned s).ingress = s.ingress := rfl
@[simp] theorem scanned_intake  (s : State) : (scanned s).intake = s.intake := rfl
@[simp] theorem scanned_stage  (s : State) : (scanned s).stage = s.stage := rfl
@[simp] theorem scanned_trackers  (s : State) : (scanned s).trackers = s.trackers := rfl
@[simp] theorem scanned_slotCounts  (s : State) : (scanned s).slotCounts = s.slotCounts := rfl
@[simp] theorem scanned_groupCounts  (s : State) : (scanned s).groupCounts = s.groupCounts := rfl
@[simp] theorem scanned_egress  (s : State) : (scanned s).egress = s.egress := rfl
@[simp] theorem scanned_localQ  (s : State) : (scanned s).localQ = s.localQ := rfl
@[simp] theorem scanned_dTx  (s : State) : (scanned s).dTx = s.dTx := rfl
@[simp] theorem scanned_uTx  (s : State) : (scanned s).uTx = s.uTx := rfl
@[simp] theorem scanned_flow  (s : State) : (scanned s).flow = s.flow := rfl
@[simp] theorem scanned_counters  (s : State) : (scanned s).counters = s.counters := rfl
@[simp] theorem scanned_address  (s : State) : (scanned s).address = s.address := rfl
@[simp] theorem scanned_requestQ  (s : State) : (scanned s).requestQ = s.requestQ := rfl
@[simp] theorem scanned_reverseQ  (s : State) : (scanned s).reverseQ = s.reverseQ := rfl
@[simp] theorem scanned_engine  (s : State) : (scanned s).engine = s.engine := rfl
@[simp] theorem scanned_notices  (s : State) : (scanned s).notices = s.notices := rfl
@[simp] theorem scanned_bankA  (s : State) : (scanned s).bankA = s.bankA := rfl
@[simp] theorem scanned_bankB  (s : State) : (scanned s).bankB = s.bankB := rfl
@[simp] theorem scanned_active  (s : State) : (scanned s).active = s.active := rfl
@[simp] theorem scanned_shadow  (s : State) : (scanned s).shadow = s.shadow := rfl
@[simp] theorem scanned_commit  (s : State) : (scanned s).commit = s.commit := rfl
@[simp] theorem scanned_store  (s : State) : (scanned s).store = { s.store with op := none, table := Vector.ofFn fun i => classify s.nv.slots[i].header, view := directoryInForce s.nv } := rfl
@[simp] theorem scanned_nv  (s : State) : (scanned s).nv = s.nv := rfl
@[simp] theorem scanned_freeCount  (s : State) : (scanned s).freeCount = s.freeCount := rfl

/-! ### answeredWith -/

@[simp] theorem answeredWith_pending (f : RequestFrame) (r : Result) (data : List Byte) (s : State) : (answeredWith f r data s).pending = s.pending := by unfold answeredWith; dsimp only; split <;> rfl
@[simp] theorem answeredWith_held (f : RequestFrame) (r : Result) (data : List Byte) (s : State) : (answeredWith f r data s).held = s.held := by unfold answeredWith; dsimp only; split <;> rfl
@[simp] theorem answeredWith_pins (f : RequestFrame) (r : Result) (data : List Byte) (s : State) : (answeredWith f r data s).pins = s.pins := by unfold answeredWith; dsimp only; split <;> rfl
@[simp] theorem answeredWith_mode (f : RequestFrame) (r : Result) (data : List Byte) (s : State) : (answeredWith f r data s).mode = s.mode := by unfold answeredWith; dsimp only; split <;> rfl
@[simp] theorem answeredWith_boot (f : RequestFrame) (r : Result) (data : List Byte) (s : State) : (answeredWith f r data s).boot = s.boot := by unfold answeredWith; dsimp only; split <;> rfl
@[simp] theorem answeredWith_uRx (f : RequestFrame) (r : Result) (data : List Byte) (s : State) : (answeredWith f r data s).uRx = s.uRx := by unfold answeredWith; dsimp only; split <;> rfl
@[simp] theorem answeredWith_dRx (f : RequestFrame) (r : Result) (data : List Byte) (s : State) : (answeredWith f r data s).dRx = s.dRx := by unfold answeredWith; dsimp only; split <;> rfl
@[simp] theorem answeredWith_ingress (f : RequestFrame) (r : Result) (data : List Byte) (s : State) : (answeredWith f r data s).ingress = s.ingress := by unfold answeredWith; dsimp only; split <;> rfl
@[simp] theorem answeredWith_intake (f : RequestFrame) (r : Result) (data : List Byte) (s : State) : (answeredWith f r data s).intake = s.intake := by unfold answeredWith; dsimp only; split <;> rfl
@[simp] theorem answeredWith_stage (f : RequestFrame) (r : Result) (data : List Byte) (s : State) : (answeredWith f r data s).stage = s.stage := by unfold answeredWith; dsimp only; split <;> rfl
@[simp] theorem answeredWith_trackers (f : RequestFrame) (r : Result) (data : List Byte) (s : State) : (answeredWith f r data s).trackers = s.trackers := by unfold answeredWith; dsimp only; split <;> rfl
@[simp] theorem answeredWith_slotCounts (f : RequestFrame) (r : Result) (data : List Byte) (s : State) : (answeredWith f r data s).slotCounts = s.slotCounts := by unfold answeredWith; dsimp only; split <;> rfl
@[simp] theorem answeredWith_groupCounts (f : RequestFrame) (r : Result) (data : List Byte) (s : State) : (answeredWith f r data s).groupCounts = s.groupCounts := by unfold answeredWith; dsimp only; split <;> rfl
@[simp] theorem answeredWith_egress (f : RequestFrame) (r : Result) (data : List Byte) (s : State) : (answeredWith f r data s).egress = s.egress := by unfold answeredWith; dsimp only; split <;> rfl
@[simp] theorem answeredWith_dTx (f : RequestFrame) (r : Result) (data : List Byte) (s : State) : (answeredWith f r data s).dTx = s.dTx := by unfold answeredWith; dsimp only; split <;> rfl
@[simp] theorem answeredWith_uTx (f : RequestFrame) (r : Result) (data : List Byte) (s : State) : (answeredWith f r data s).uTx = s.uTx := by unfold answeredWith; dsimp only; split <;> rfl
@[simp] theorem answeredWith_flow (f : RequestFrame) (r : Result) (data : List Byte) (s : State) : (answeredWith f r data s).flow = s.flow := by unfold answeredWith; dsimp only; split <;> rfl
@[simp] theorem answeredWith_counters (f : RequestFrame) (r : Result) (data : List Byte) (s : State) : (answeredWith f r data s).counters = s.counters := by unfold answeredWith; dsimp only; split <;> rfl
@[simp] theorem answeredWith_address (f : RequestFrame) (r : Result) (data : List Byte) (s : State) : (answeredWith f r data s).address = s.address := by unfold answeredWith; dsimp only; split <;> rfl
@[simp] theorem answeredWith_requestQ (f : RequestFrame) (r : Result) (data : List Byte) (s : State) : (answeredWith f r data s).requestQ = s.requestQ := by unfold answeredWith; dsimp only; split <;> rfl
@[simp] theorem answeredWith_reverseQ (f : RequestFrame) (r : Result) (data : List Byte) (s : State) : (answeredWith f r data s).reverseQ = s.reverseQ := by unfold answeredWith; dsimp only; split <;> rfl
@[simp] theorem answeredWith_notices (f : RequestFrame) (r : Result) (data : List Byte) (s : State) : (answeredWith f r data s).notices = s.notices := by unfold answeredWith; dsimp only; split <;> rfl
@[simp] theorem answeredWith_bankA (f : RequestFrame) (r : Result) (data : List Byte) (s : State) : (answeredWith f r data s).bankA = s.bankA := by unfold answeredWith; dsimp only; split <;> rfl
@[simp] theorem answeredWith_bankB (f : RequestFrame) (r : Result) (data : List Byte) (s : State) : (answeredWith f r data s).bankB = s.bankB := by unfold answeredWith; dsimp only; split <;> rfl
@[simp] theorem answeredWith_active (f : RequestFrame) (r : Result) (data : List Byte) (s : State) : (answeredWith f r data s).active = s.active := by unfold answeredWith; dsimp only; split <;> rfl
@[simp] theorem answeredWith_shadow (f : RequestFrame) (r : Result) (data : List Byte) (s : State) : (answeredWith f r data s).shadow = s.shadow := by unfold answeredWith; dsimp only; split <;> rfl
@[simp] theorem answeredWith_commit (f : RequestFrame) (r : Result) (data : List Byte) (s : State) : (answeredWith f r data s).commit = s.commit := by unfold answeredWith; dsimp only; split <;> rfl
@[simp] theorem answeredWith_store (f : RequestFrame) (r : Result) (data : List Byte) (s : State) : (answeredWith f r data s).store = s.store := by unfold answeredWith; dsimp only; split <;> rfl
@[simp] theorem answeredWith_nv (f : RequestFrame) (r : Result) (data : List Byte) (s : State) : (answeredWith f r data s).nv = s.nv := by unfold answeredWith; dsimp only; split <;> rfl
@[simp] theorem answeredWith_freeCount (f : RequestFrame) (r : Result) (data : List Byte) (s : State) : (answeredWith f r data s).freeCount = s.freeCount := by unfold answeredWith; dsimp only; split <;> rfl

/-! ### noticed -/

@[simp] theorem noticed_pending (tag code : Byte) (data : List Byte) (s : State) : (noticed tag code data s).pending = s.pending := rfl
@[simp] theorem noticed_held (tag code : Byte) (data : List Byte) (s : State) : (noticed tag code data s).held = s.held := rfl
@[simp] theorem noticed_pins (tag code : Byte) (data : List Byte) (s : State) : (noticed tag code data s).pins = s.pins := rfl
@[simp] theorem noticed_mode (tag code : Byte) (data : List Byte) (s : State) : (noticed tag code data s).mode = s.mode := rfl
@[simp] theorem noticed_boot (tag code : Byte) (data : List Byte) (s : State) : (noticed tag code data s).boot = s.boot := rfl
@[simp] theorem noticed_uRx (tag code : Byte) (data : List Byte) (s : State) : (noticed tag code data s).uRx = s.uRx := rfl
@[simp] theorem noticed_dRx (tag code : Byte) (data : List Byte) (s : State) : (noticed tag code data s).dRx = s.dRx := rfl
@[simp] theorem noticed_ingress (tag code : Byte) (data : List Byte) (s : State) : (noticed tag code data s).ingress = s.ingress := rfl
@[simp] theorem noticed_intake (tag code : Byte) (data : List Byte) (s : State) : (noticed tag code data s).intake = s.intake := rfl
@[simp] theorem noticed_stage (tag code : Byte) (data : List Byte) (s : State) : (noticed tag code data s).stage = s.stage := rfl
@[simp] theorem noticed_trackers (tag code : Byte) (data : List Byte) (s : State) : (noticed tag code data s).trackers = s.trackers := rfl
@[simp] theorem noticed_slotCounts (tag code : Byte) (data : List Byte) (s : State) : (noticed tag code data s).slotCounts = s.slotCounts := rfl
@[simp] theorem noticed_groupCounts (tag code : Byte) (data : List Byte) (s : State) : (noticed tag code data s).groupCounts = s.groupCounts := rfl
@[simp] theorem noticed_egress (tag code : Byte) (data : List Byte) (s : State) : (noticed tag code data s).egress = s.egress := rfl
@[simp] theorem noticed_localQ (tag code : Byte) (data : List Byte) (s : State) : (noticed tag code data s).localQ = s.localQ ++ [.notice (buildNotice (byteOf s.address) tag code data)] := rfl
@[simp] theorem noticed_dTx (tag code : Byte) (data : List Byte) (s : State) : (noticed tag code data s).dTx = s.dTx := rfl
@[simp] theorem noticed_uTx (tag code : Byte) (data : List Byte) (s : State) : (noticed tag code data s).uTx = s.uTx := rfl
@[simp] theorem noticed_flow (tag code : Byte) (data : List Byte) (s : State) : (noticed tag code data s).flow = s.flow := rfl
@[simp] theorem noticed_counters (tag code : Byte) (data : List Byte) (s : State) : (noticed tag code data s).counters = s.counters := rfl
@[simp] theorem noticed_address (tag code : Byte) (data : List Byte) (s : State) : (noticed tag code data s).address = s.address := rfl
@[simp] theorem noticed_requestQ (tag code : Byte) (data : List Byte) (s : State) : (noticed tag code data s).requestQ = s.requestQ := rfl
@[simp] theorem noticed_reverseQ (tag code : Byte) (data : List Byte) (s : State) : (noticed tag code data s).reverseQ = s.reverseQ := rfl
@[simp] theorem noticed_engine (tag code : Byte) (data : List Byte) (s : State) : (noticed tag code data s).engine = s.engine := rfl
@[simp] theorem noticed_notices (tag code : Byte) (data : List Byte) (s : State) : (noticed tag code data s).notices = s.notices := rfl
@[simp] theorem noticed_bankA (tag code : Byte) (data : List Byte) (s : State) : (noticed tag code data s).bankA = s.bankA := rfl
@[simp] theorem noticed_bankB (tag code : Byte) (data : List Byte) (s : State) : (noticed tag code data s).bankB = s.bankB := rfl
@[simp] theorem noticed_active (tag code : Byte) (data : List Byte) (s : State) : (noticed tag code data s).active = s.active := rfl
@[simp] theorem noticed_shadow (tag code : Byte) (data : List Byte) (s : State) : (noticed tag code data s).shadow = s.shadow := rfl
@[simp] theorem noticed_commit (tag code : Byte) (data : List Byte) (s : State) : (noticed tag code data s).commit = s.commit := rfl
@[simp] theorem noticed_store (tag code : Byte) (data : List Byte) (s : State) : (noticed tag code data s).store = s.store := rfl
@[simp] theorem noticed_nv (tag code : Byte) (data : List Byte) (s : State) : (noticed tag code data s).nv = s.nv := rfl
@[simp] theorem noticed_freeCount (tag code : Byte) (data : List Byte) (s : State) : (noticed tag code data s).freeCount = s.freeCount := rfl

end Sys2Proof.Machine
end

