-- ==== Sys2Proof/Laws/Notices.lean ====
section
/-! SUPPORT. The notice operations change the notice unit and the local queue alone, and append to that queue at most one frame. -/

namespace Sys2Proof.Machine

/-- What a notice operation can do: the notice unit is another one, and at most one frame has joined the local queue, in a free place. -/
def NoticeStep (s t : State) : Prop :=
  ∃ n q, t = { s with notices := n, localQ := s.localQ ++ q } ∧ (q = [] ∨ ∃ f, q = [LocalFrame.notice f] ∧ s.localQ.length < 4)

theorem NoticeStep.refl (s : State) : NoticeStep s s := ⟨s.notices, [], by simp, .inl rfl⟩

theorem NoticeStep.ofNotices (s : State) (n : NoticeUnit) : NoticeStep s { s with notices := n } := ⟨n, [], by simp, .inl rfl⟩

/-- A change of the notice unit before a notice operation belongs to it. -/
theorem NoticeStep.afterNotices {s t : State} {n : NoticeUnit} (h : NoticeStep { s with notices := n } t) : NoticeStep s t := by
  obtain ⟨m, q, rfl, hq⟩ := h
  exact ⟨m, q, rfl, hq⟩

theorem offerNotice_step (s : State) : NoticeStep s (offerNotice s) := by
  unfold offerNotice
  split
  case isFalse => exact .refl s
  case isTrue room =>
    have hroom : s.localQ.length < 4 := by simpa [localRoom] using room
    split
    case h_2 => exact .refl s
    case h_1 k _ =>
      cases k with
      | completion k =>
        simp only [formNotice, formCompletion]
        split
        · exact .refl s
        · exact ⟨_, [_], rfl, .inr ⟨_, rfl, hroom⟩⟩
      | unsolicited k => exact ⟨_, [_], rfl, .inr ⟨_, rfl, hroom⟩⟩

theorem raiseCompletion_step (tag : Byte) (what : Completion) (s : State) : NoticeStep s (raiseCompletion tag what s) := by
  simp only [raiseCompletion]
  split
  · exact (offerNotice_step _).afterNotices
  · exact .ofNotices s _

theorem reportOverrun_step (s : State) : NoticeStep s (reportOverrun s) := by
  unfold reportOverrun
  split
  · split
    · exact (offerNotice_step _).afterNotices
    · exact .refl s
    · exact .ofNotices s _
  · exact .refl s

theorem reportSequence_step (g : Fin 16) (s : State) : NoticeStep s (reportSequence g s) := by
  unfold reportSequence
  split
  · dsimp only
    split
    · exact (offerNotice_step _).afterNotices
    · exact .ofNotices s _
    · exact .ofNotices s _
  · exact .refl s

theorem reportBoot_step (o : BootOutcome) (s : State) : NoticeStep s (reportBoot o s) := by
  unfold reportBoot
  split
  · exact (offerNotice_step _).afterNotices
  · exact .refl s

theorem NoticeStep.pending {s t : State} (h : NoticeStep s t) : t.pending = s.pending := by obtain ⟨n, q, rfl, _⟩ := h; rfl
theorem NoticeStep.held {s t : State} (h : NoticeStep s t) : t.held = s.held := by obtain ⟨n, q, rfl, _⟩ := h; rfl
theorem NoticeStep.pins {s t : State} (h : NoticeStep s t) : t.pins = s.pins := by obtain ⟨n, q, rfl, _⟩ := h; rfl
theorem NoticeStep.mode {s t : State} (h : NoticeStep s t) : t.mode = s.mode := by obtain ⟨n, q, rfl, _⟩ := h; rfl
theorem NoticeStep.boot {s t : State} (h : NoticeStep s t) : t.boot = s.boot := by obtain ⟨n, q, rfl, _⟩ := h; rfl
theorem NoticeStep.uRx {s t : State} (h : NoticeStep s t) : t.uRx = s.uRx := by obtain ⟨n, q, rfl, _⟩ := h; rfl
theorem NoticeStep.dRx {s t : State} (h : NoticeStep s t) : t.dRx = s.dRx := by obtain ⟨n, q, rfl, _⟩ := h; rfl
theorem NoticeStep.ingress {s t : State} (h : NoticeStep s t) : t.ingress = s.ingress := by obtain ⟨n, q, rfl, _⟩ := h; rfl
theorem NoticeStep.intake {s t : State} (h : NoticeStep s t) : t.intake = s.intake := by obtain ⟨n, q, rfl, _⟩ := h; rfl
theorem NoticeStep.stage {s t : State} (h : NoticeStep s t) : t.stage = s.stage := by obtain ⟨n, q, rfl, _⟩ := h; rfl
theorem NoticeStep.trackers {s t : State} (h : NoticeStep s t) : t.trackers = s.trackers := by obtain ⟨n, q, rfl, _⟩ := h; rfl
theorem NoticeStep.slotCounts {s t : State} (h : NoticeStep s t) : t.slotCounts = s.slotCounts := by obtain ⟨n, q, rfl, _⟩ := h; rfl
theorem NoticeStep.groupCounts {s t : State} (h : NoticeStep s t) : t.groupCounts = s.groupCounts := by obtain ⟨n, q, rfl, _⟩ := h; rfl
theorem NoticeStep.egress {s t : State} (h : NoticeStep s t) : t.egress = s.egress := by obtain ⟨n, q, rfl, _⟩ := h; rfl
theorem NoticeStep.dTx {s t : State} (h : NoticeStep s t) : t.dTx = s.dTx := by obtain ⟨n, q, rfl, _⟩ := h; rfl
theorem NoticeStep.uTx {s t : State} (h : NoticeStep s t) : t.uTx = s.uTx := by obtain ⟨n, q, rfl, _⟩ := h; rfl
theorem NoticeStep.flow {s t : State} (h : NoticeStep s t) : t.flow = s.flow := by obtain ⟨n, q, rfl, _⟩ := h; rfl
theorem NoticeStep.counters {s t : State} (h : NoticeStep s t) : t.counters = s.counters := by obtain ⟨n, q, rfl, _⟩ := h; rfl
theorem NoticeStep.address {s t : State} (h : NoticeStep s t) : t.address = s.address := by obtain ⟨n, q, rfl, _⟩ := h; rfl
theorem NoticeStep.requestQ {s t : State} (h : NoticeStep s t) : t.requestQ = s.requestQ := by obtain ⟨n, q, rfl, _⟩ := h; rfl
theorem NoticeStep.reverseQ {s t : State} (h : NoticeStep s t) : t.reverseQ = s.reverseQ := by obtain ⟨n, q, rfl, _⟩ := h; rfl
theorem NoticeStep.engine {s t : State} (h : NoticeStep s t) : t.engine = s.engine := by obtain ⟨n, q, rfl, _⟩ := h; rfl
theorem NoticeStep.bankA {s t : State} (h : NoticeStep s t) : t.bankA = s.bankA := by obtain ⟨n, q, rfl, _⟩ := h; rfl
theorem NoticeStep.bankB {s t : State} (h : NoticeStep s t) : t.bankB = s.bankB := by obtain ⟨n, q, rfl, _⟩ := h; rfl
theorem NoticeStep.active {s t : State} (h : NoticeStep s t) : t.active = s.active := by obtain ⟨n, q, rfl, _⟩ := h; rfl
theorem NoticeStep.shadow {s t : State} (h : NoticeStep s t) : t.shadow = s.shadow := by obtain ⟨n, q, rfl, _⟩ := h; rfl
theorem NoticeStep.commit {s t : State} (h : NoticeStep s t) : t.commit = s.commit := by obtain ⟨n, q, rfl, _⟩ := h; rfl
theorem NoticeStep.store {s t : State} (h : NoticeStep s t) : t.store = s.store := by obtain ⟨n, q, rfl, _⟩ := h; rfl
theorem NoticeStep.nv {s t : State} (h : NoticeStep s t) : t.nv = s.nv := by obtain ⟨n, q, rfl, _⟩ := h; rfl
theorem NoticeStep.freeCount {s t : State} (h : NoticeStep s t) : t.freeCount = s.freeCount := by obtain ⟨n, q, rfl, _⟩ := h; rfl

/-! ### offerNotice -/

@[simp] theorem offerNotice_pending  (s : State) : (offerNotice s).pending = s.pending := (offerNotice_step s).pending
@[simp] theorem offerNotice_held  (s : State) : (offerNotice s).held = s.held := (offerNotice_step s).held
@[simp] theorem offerNotice_pins  (s : State) : (offerNotice s).pins = s.pins := (offerNotice_step s).pins
@[simp] theorem offerNotice_mode  (s : State) : (offerNotice s).mode = s.mode := (offerNotice_step s).mode
@[simp] theorem offerNotice_boot  (s : State) : (offerNotice s).boot = s.boot := (offerNotice_step s).boot
@[simp] theorem offerNotice_uRx  (s : State) : (offerNotice s).uRx = s.uRx := (offerNotice_step s).uRx
@[simp] theorem offerNotice_dRx  (s : State) : (offerNotice s).dRx = s.dRx := (offerNotice_step s).dRx
@[simp] theorem offerNotice_ingress  (s : State) : (offerNotice s).ingress = s.ingress := (offerNotice_step s).ingress
@[simp] theorem offerNotice_intake  (s : State) : (offerNotice s).intake = s.intake := (offerNotice_step s).intake
@[simp] theorem offerNotice_stage  (s : State) : (offerNotice s).stage = s.stage := (offerNotice_step s).stage
@[simp] theorem offerNotice_trackers  (s : State) : (offerNotice s).trackers = s.trackers := (offerNotice_step s).trackers
@[simp] theorem offerNotice_slotCounts  (s : State) : (offerNotice s).slotCounts = s.slotCounts := (offerNotice_step s).slotCounts
@[simp] theorem offerNotice_groupCounts  (s : State) : (offerNotice s).groupCounts = s.groupCounts := (offerNotice_step s).groupCounts
@[simp] theorem offerNotice_egress  (s : State) : (offerNotice s).egress = s.egress := (offerNotice_step s).egress
@[simp] theorem offerNotice_dTx  (s : State) : (offerNotice s).dTx = s.dTx := (offerNotice_step s).dTx
@[simp] theorem offerNotice_uTx  (s : State) : (offerNotice s).uTx = s.uTx := (offerNotice_step s).uTx
@[simp] theorem offerNotice_flow  (s : State) : (offerNotice s).flow = s.flow := (offerNotice_step s).flow
@[simp] theorem offerNotice_counters  (s : State) : (offerNotice s).counters = s.counters := (offerNotice_step s).counters
@[simp] theorem offerNotice_address  (s : State) : (offerNotice s).address = s.address := (offerNotice_step s).address
@[simp] theorem offerNotice_requestQ  (s : State) : (offerNotice s).requestQ = s.requestQ := (offerNotice_step s).requestQ
@[simp] theorem offerNotice_reverseQ  (s : State) : (offerNotice s).reverseQ = s.reverseQ := (offerNotice_step s).reverseQ
@[simp] theorem offerNotice_engine  (s : State) : (offerNotice s).engine = s.engine := (offerNotice_step s).engine
@[simp] theorem offerNotice_bankA  (s : State) : (offerNotice s).bankA = s.bankA := (offerNotice_step s).bankA
@[simp] theorem offerNotice_bankB  (s : State) : (offerNotice s).bankB = s.bankB := (offerNotice_step s).bankB
@[simp] theorem offerNotice_active  (s : State) : (offerNotice s).active = s.active := (offerNotice_step s).active
@[simp] theorem offerNotice_shadow  (s : State) : (offerNotice s).shadow = s.shadow := (offerNotice_step s).shadow
@[simp] theorem offerNotice_commit  (s : State) : (offerNotice s).commit = s.commit := (offerNotice_step s).commit
@[simp] theorem offerNotice_store  (s : State) : (offerNotice s).store = s.store := (offerNotice_step s).store
@[simp] theorem offerNotice_nv  (s : State) : (offerNotice s).nv = s.nv := (offerNotice_step s).nv
@[simp] theorem offerNotice_freeCount  (s : State) : (offerNotice s).freeCount = s.freeCount := (offerNotice_step s).freeCount

/-! ### raiseCompletion -/

@[simp] theorem raiseCompletion_pending (tag : Byte) (what : Completion) (s : State) : (raiseCompletion tag what s).pending = s.pending := (raiseCompletion_step tag what s).pending
@[simp] theorem raiseCompletion_held (tag : Byte) (what : Completion) (s : State) : (raiseCompletion tag what s).held = s.held := (raiseCompletion_step tag what s).held
@[simp] theorem raiseCompletion_pins (tag : Byte) (what : Completion) (s : State) : (raiseCompletion tag what s).pins = s.pins := (raiseCompletion_step tag what s).pins
@[simp] theorem raiseCompletion_mode (tag : Byte) (what : Completion) (s : State) : (raiseCompletion tag what s).mode = s.mode := (raiseCompletion_step tag what s).mode
@[simp] theorem raiseCompletion_boot (tag : Byte) (what : Completion) (s : State) : (raiseCompletion tag what s).boot = s.boot := (raiseCompletion_step tag what s).boot
@[simp] theorem raiseCompletion_uRx (tag : Byte) (what : Completion) (s : State) : (raiseCompletion tag what s).uRx = s.uRx := (raiseCompletion_step tag what s).uRx
@[simp] theorem raiseCompletion_dRx (tag : Byte) (what : Completion) (s : State) : (raiseCompletion tag what s).dRx = s.dRx := (raiseCompletion_step tag what s).dRx
@[simp] theorem raiseCompletion_ingress (tag : Byte) (what : Completion) (s : State) : (raiseCompletion tag what s).ingress = s.ingress := (raiseCompletion_step tag what s).ingress
@[simp] theorem raiseCompletion_intake (tag : Byte) (what : Completion) (s : State) : (raiseCompletion tag what s).intake = s.intake := (raiseCompletion_step tag what s).intake
@[simp] theorem raiseCompletion_stage (tag : Byte) (what : Completion) (s : State) : (raiseCompletion tag what s).stage = s.stage := (raiseCompletion_step tag what s).stage
@[simp] theorem raiseCompletion_trackers (tag : Byte) (what : Completion) (s : State) : (raiseCompletion tag what s).trackers = s.trackers := (raiseCompletion_step tag what s).trackers
@[simp] theorem raiseCompletion_slotCounts (tag : Byte) (what : Completion) (s : State) : (raiseCompletion tag what s).slotCounts = s.slotCounts := (raiseCompletion_step tag what s).slotCounts
@[simp] theorem raiseCompletion_groupCounts (tag : Byte) (what : Completion) (s : State) : (raiseCompletion tag what s).groupCounts = s.groupCounts := (raiseCompletion_step tag what s).groupCounts
@[simp] theorem raiseCompletion_egress (tag : Byte) (what : Completion) (s : State) : (raiseCompletion tag what s).egress = s.egress := (raiseCompletion_step tag what s).egress
@[simp] theorem raiseCompletion_dTx (tag : Byte) (what : Completion) (s : State) : (raiseCompletion tag what s).dTx = s.dTx := (raiseCompletion_step tag what s).dTx
@[simp] theorem raiseCompletion_uTx (tag : Byte) (what : Completion) (s : State) : (raiseCompletion tag what s).uTx = s.uTx := (raiseCompletion_step tag what s).uTx
@[simp] theorem raiseCompletion_flow (tag : Byte) (what : Completion) (s : State) : (raiseCompletion tag what s).flow = s.flow := (raiseCompletion_step tag what s).flow
@[simp] theorem raiseCompletion_counters (tag : Byte) (what : Completion) (s : State) : (raiseCompletion tag what s).counters = s.counters := (raiseCompletion_step tag what s).counters
@[simp] theorem raiseCompletion_address (tag : Byte) (what : Completion) (s : State) : (raiseCompletion tag what s).address = s.address := (raiseCompletion_step tag what s).address
@[simp] theorem raiseCompletion_requestQ (tag : Byte) (what : Completion) (s : State) : (raiseCompletion tag what s).requestQ = s.requestQ := (raiseCompletion_step tag what s).requestQ
@[simp] theorem raiseCompletion_reverseQ (tag : Byte) (what : Completion) (s : State) : (raiseCompletion tag what s).reverseQ = s.reverseQ := (raiseCompletion_step tag what s).reverseQ
@[simp] theorem raiseCompletion_engine (tag : Byte) (what : Completion) (s : State) : (raiseCompletion tag what s).engine = s.engine := (raiseCompletion_step tag what s).engine
@[simp] theorem raiseCompletion_bankA (tag : Byte) (what : Completion) (s : State) : (raiseCompletion tag what s).bankA = s.bankA := (raiseCompletion_step tag what s).bankA
@[simp] theorem raiseCompletion_bankB (tag : Byte) (what : Completion) (s : State) : (raiseCompletion tag what s).bankB = s.bankB := (raiseCompletion_step tag what s).bankB
@[simp] theorem raiseCompletion_active (tag : Byte) (what : Completion) (s : State) : (raiseCompletion tag what s).active = s.active := (raiseCompletion_step tag what s).active
@[simp] theorem raiseCompletion_shadow (tag : Byte) (what : Completion) (s : State) : (raiseCompletion tag what s).shadow = s.shadow := (raiseCompletion_step tag what s).shadow
@[simp] theorem raiseCompletion_commit (tag : Byte) (what : Completion) (s : State) : (raiseCompletion tag what s).commit = s.commit := (raiseCompletion_step tag what s).commit
@[simp] theorem raiseCompletion_store (tag : Byte) (what : Completion) (s : State) : (raiseCompletion tag what s).store = s.store := (raiseCompletion_step tag what s).store
@[simp] theorem raiseCompletion_nv (tag : Byte) (what : Completion) (s : State) : (raiseCompletion tag what s).nv = s.nv := (raiseCompletion_step tag what s).nv
@[simp] theorem raiseCompletion_freeCount (tag : Byte) (what : Completion) (s : State) : (raiseCompletion tag what s).freeCount = s.freeCount := (raiseCompletion_step tag what s).freeCount

/-! ### reportOverrun -/

@[simp] theorem reportOverrun_pending  (s : State) : (reportOverrun s).pending = s.pending := (reportOverrun_step s).pending
@[simp] theorem reportOverrun_held  (s : State) : (reportOverrun s).held = s.held := (reportOverrun_step s).held
@[simp] theorem reportOverrun_pins  (s : State) : (reportOverrun s).pins = s.pins := (reportOverrun_step s).pins
@[simp] theorem reportOverrun_mode  (s : State) : (reportOverrun s).mode = s.mode := (reportOverrun_step s).mode
@[simp] theorem reportOverrun_boot  (s : State) : (reportOverrun s).boot = s.boot := (reportOverrun_step s).boot
@[simp] theorem reportOverrun_uRx  (s : State) : (reportOverrun s).uRx = s.uRx := (reportOverrun_step s).uRx
@[simp] theorem reportOverrun_dRx  (s : State) : (reportOverrun s).dRx = s.dRx := (reportOverrun_step s).dRx
@[simp] theorem reportOverrun_ingress  (s : State) : (reportOverrun s).ingress = s.ingress := (reportOverrun_step s).ingress
@[simp] theorem reportOverrun_intake  (s : State) : (reportOverrun s).intake = s.intake := (reportOverrun_step s).intake
@[simp] theorem reportOverrun_stage  (s : State) : (reportOverrun s).stage = s.stage := (reportOverrun_step s).stage
@[simp] theorem reportOverrun_trackers  (s : State) : (reportOverrun s).trackers = s.trackers := (reportOverrun_step s).trackers
@[simp] theorem reportOverrun_slotCounts  (s : State) : (reportOverrun s).slotCounts = s.slotCounts := (reportOverrun_step s).slotCounts
@[simp] theorem reportOverrun_groupCounts  (s : State) : (reportOverrun s).groupCounts = s.groupCounts := (reportOverrun_step s).groupCounts
@[simp] theorem reportOverrun_egress  (s : State) : (reportOverrun s).egress = s.egress := (reportOverrun_step s).egress
@[simp] theorem reportOverrun_dTx  (s : State) : (reportOverrun s).dTx = s.dTx := (reportOverrun_step s).dTx
@[simp] theorem reportOverrun_uTx  (s : State) : (reportOverrun s).uTx = s.uTx := (reportOverrun_step s).uTx
@[simp] theorem reportOverrun_flow  (s : State) : (reportOverrun s).flow = s.flow := (reportOverrun_step s).flow
@[simp] theorem reportOverrun_counters  (s : State) : (reportOverrun s).counters = s.counters := (reportOverrun_step s).counters
@[simp] theorem reportOverrun_address  (s : State) : (reportOverrun s).address = s.address := (reportOverrun_step s).address
@[simp] theorem reportOverrun_requestQ  (s : State) : (reportOverrun s).requestQ = s.requestQ := (reportOverrun_step s).requestQ
@[simp] theorem reportOverrun_reverseQ  (s : State) : (reportOverrun s).reverseQ = s.reverseQ := (reportOverrun_step s).reverseQ
@[simp] theorem reportOverrun_engine  (s : State) : (reportOverrun s).engine = s.engine := (reportOverrun_step s).engine
@[simp] theorem reportOverrun_bankA  (s : State) : (reportOverrun s).bankA = s.bankA := (reportOverrun_step s).bankA
@[simp] theorem reportOverrun_bankB  (s : State) : (reportOverrun s).bankB = s.bankB := (reportOverrun_step s).bankB
@[simp] theorem reportOverrun_active  (s : State) : (reportOverrun s).active = s.active := (reportOverrun_step s).active
@[simp] theorem reportOverrun_shadow  (s : State) : (reportOverrun s).shadow = s.shadow := (reportOverrun_step s).shadow
@[simp] theorem reportOverrun_commit  (s : State) : (reportOverrun s).commit = s.commit := (reportOverrun_step s).commit
@[simp] theorem reportOverrun_store  (s : State) : (reportOverrun s).store = s.store := (reportOverrun_step s).store
@[simp] theorem reportOverrun_nv  (s : State) : (reportOverrun s).nv = s.nv := (reportOverrun_step s).nv
@[simp] theorem reportOverrun_freeCount  (s : State) : (reportOverrun s).freeCount = s.freeCount := (reportOverrun_step s).freeCount

/-! ### reportSequence -/

@[simp] theorem reportSequence_pending (g : Fin 16) (s : State) : (reportSequence g s).pending = s.pending := (reportSequence_step g s).pending
@[simp] theorem reportSequence_held (g : Fin 16) (s : State) : (reportSequence g s).held = s.held := (reportSequence_step g s).held
@[simp] theorem reportSequence_pins (g : Fin 16) (s : State) : (reportSequence g s).pins = s.pins := (reportSequence_step g s).pins
@[simp] theorem reportSequence_mode (g : Fin 16) (s : State) : (reportSequence g s).mode = s.mode := (reportSequence_step g s).mode
@[simp] theorem reportSequence_boot (g : Fin 16) (s : State) : (reportSequence g s).boot = s.boot := (reportSequence_step g s).boot
@[simp] theorem reportSequence_uRx (g : Fin 16) (s : State) : (reportSequence g s).uRx = s.uRx := (reportSequence_step g s).uRx
@[simp] theorem reportSequence_dRx (g : Fin 16) (s : State) : (reportSequence g s).dRx = s.dRx := (reportSequence_step g s).dRx
@[simp] theorem reportSequence_ingress (g : Fin 16) (s : State) : (reportSequence g s).ingress = s.ingress := (reportSequence_step g s).ingress
@[simp] theorem reportSequence_intake (g : Fin 16) (s : State) : (reportSequence g s).intake = s.intake := (reportSequence_step g s).intake
@[simp] theorem reportSequence_stage (g : Fin 16) (s : State) : (reportSequence g s).stage = s.stage := (reportSequence_step g s).stage
@[simp] theorem reportSequence_trackers (g : Fin 16) (s : State) : (reportSequence g s).trackers = s.trackers := (reportSequence_step g s).trackers
@[simp] theorem reportSequence_slotCounts (g : Fin 16) (s : State) : (reportSequence g s).slotCounts = s.slotCounts := (reportSequence_step g s).slotCounts
@[simp] theorem reportSequence_groupCounts (g : Fin 16) (s : State) : (reportSequence g s).groupCounts = s.groupCounts := (reportSequence_step g s).groupCounts
@[simp] theorem reportSequence_egress (g : Fin 16) (s : State) : (reportSequence g s).egress = s.egress := (reportSequence_step g s).egress
@[simp] theorem reportSequence_dTx (g : Fin 16) (s : State) : (reportSequence g s).dTx = s.dTx := (reportSequence_step g s).dTx
@[simp] theorem reportSequence_uTx (g : Fin 16) (s : State) : (reportSequence g s).uTx = s.uTx := (reportSequence_step g s).uTx
@[simp] theorem reportSequence_flow (g : Fin 16) (s : State) : (reportSequence g s).flow = s.flow := (reportSequence_step g s).flow
@[simp] theorem reportSequence_counters (g : Fin 16) (s : State) : (reportSequence g s).counters = s.counters := (reportSequence_step g s).counters
@[simp] theorem reportSequence_address (g : Fin 16) (s : State) : (reportSequence g s).address = s.address := (reportSequence_step g s).address
@[simp] theorem reportSequence_requestQ (g : Fin 16) (s : State) : (reportSequence g s).requestQ = s.requestQ := (reportSequence_step g s).requestQ
@[simp] theorem reportSequence_reverseQ (g : Fin 16) (s : State) : (reportSequence g s).reverseQ = s.reverseQ := (reportSequence_step g s).reverseQ
@[simp] theorem reportSequence_engine (g : Fin 16) (s : State) : (reportSequence g s).engine = s.engine := (reportSequence_step g s).engine
@[simp] theorem reportSequence_bankA (g : Fin 16) (s : State) : (reportSequence g s).bankA = s.bankA := (reportSequence_step g s).bankA
@[simp] theorem reportSequence_bankB (g : Fin 16) (s : State) : (reportSequence g s).bankB = s.bankB := (reportSequence_step g s).bankB
@[simp] theorem reportSequence_active (g : Fin 16) (s : State) : (reportSequence g s).active = s.active := (reportSequence_step g s).active
@[simp] theorem reportSequence_shadow (g : Fin 16) (s : State) : (reportSequence g s).shadow = s.shadow := (reportSequence_step g s).shadow
@[simp] theorem reportSequence_commit (g : Fin 16) (s : State) : (reportSequence g s).commit = s.commit := (reportSequence_step g s).commit
@[simp] theorem reportSequence_store (g : Fin 16) (s : State) : (reportSequence g s).store = s.store := (reportSequence_step g s).store
@[simp] theorem reportSequence_nv (g : Fin 16) (s : State) : (reportSequence g s).nv = s.nv := (reportSequence_step g s).nv
@[simp] theorem reportSequence_freeCount (g : Fin 16) (s : State) : (reportSequence g s).freeCount = s.freeCount := (reportSequence_step g s).freeCount

/-! ### reportBoot -/

@[simp] theorem reportBoot_pending (o : BootOutcome) (s : State) : (reportBoot o s).pending = s.pending := (reportBoot_step o s).pending
@[simp] theorem reportBoot_held (o : BootOutcome) (s : State) : (reportBoot o s).held = s.held := (reportBoot_step o s).held
@[simp] theorem reportBoot_pins (o : BootOutcome) (s : State) : (reportBoot o s).pins = s.pins := (reportBoot_step o s).pins
@[simp] theorem reportBoot_mode (o : BootOutcome) (s : State) : (reportBoot o s).mode = s.mode := (reportBoot_step o s).mode
@[simp] theorem reportBoot_boot (o : BootOutcome) (s : State) : (reportBoot o s).boot = s.boot := (reportBoot_step o s).boot
@[simp] theorem reportBoot_uRx (o : BootOutcome) (s : State) : (reportBoot o s).uRx = s.uRx := (reportBoot_step o s).uRx
@[simp] theorem reportBoot_dRx (o : BootOutcome) (s : State) : (reportBoot o s).dRx = s.dRx := (reportBoot_step o s).dRx
@[simp] theorem reportBoot_ingress (o : BootOutcome) (s : State) : (reportBoot o s).ingress = s.ingress := (reportBoot_step o s).ingress
@[simp] theorem reportBoot_intake (o : BootOutcome) (s : State) : (reportBoot o s).intake = s.intake := (reportBoot_step o s).intake
@[simp] theorem reportBoot_stage (o : BootOutcome) (s : State) : (reportBoot o s).stage = s.stage := (reportBoot_step o s).stage
@[simp] theorem reportBoot_trackers (o : BootOutcome) (s : State) : (reportBoot o s).trackers = s.trackers := (reportBoot_step o s).trackers
@[simp] theorem reportBoot_slotCounts (o : BootOutcome) (s : State) : (reportBoot o s).slotCounts = s.slotCounts := (reportBoot_step o s).slotCounts
@[simp] theorem reportBoot_groupCounts (o : BootOutcome) (s : State) : (reportBoot o s).groupCounts = s.groupCounts := (reportBoot_step o s).groupCounts
@[simp] theorem reportBoot_egress (o : BootOutcome) (s : State) : (reportBoot o s).egress = s.egress := (reportBoot_step o s).egress
@[simp] theorem reportBoot_dTx (o : BootOutcome) (s : State) : (reportBoot o s).dTx = s.dTx := (reportBoot_step o s).dTx
@[simp] theorem reportBoot_uTx (o : BootOutcome) (s : State) : (reportBoot o s).uTx = s.uTx := (reportBoot_step o s).uTx
@[simp] theorem reportBoot_flow (o : BootOutcome) (s : State) : (reportBoot o s).flow = s.flow := (reportBoot_step o s).flow
@[simp] theorem reportBoot_counters (o : BootOutcome) (s : State) : (reportBoot o s).counters = s.counters := (reportBoot_step o s).counters
@[simp] theorem reportBoot_address (o : BootOutcome) (s : State) : (reportBoot o s).address = s.address := (reportBoot_step o s).address
@[simp] theorem reportBoot_requestQ (o : BootOutcome) (s : State) : (reportBoot o s).requestQ = s.requestQ := (reportBoot_step o s).requestQ
@[simp] theorem reportBoot_reverseQ (o : BootOutcome) (s : State) : (reportBoot o s).reverseQ = s.reverseQ := (reportBoot_step o s).reverseQ
@[simp] theorem reportBoot_engine (o : BootOutcome) (s : State) : (reportBoot o s).engine = s.engine := (reportBoot_step o s).engine
@[simp] theorem reportBoot_bankA (o : BootOutcome) (s : State) : (reportBoot o s).bankA = s.bankA := (reportBoot_step o s).bankA
@[simp] theorem reportBoot_bankB (o : BootOutcome) (s : State) : (reportBoot o s).bankB = s.bankB := (reportBoot_step o s).bankB
@[simp] theorem reportBoot_active (o : BootOutcome) (s : State) : (reportBoot o s).active = s.active := (reportBoot_step o s).active
@[simp] theorem reportBoot_shadow (o : BootOutcome) (s : State) : (reportBoot o s).shadow = s.shadow := (reportBoot_step o s).shadow
@[simp] theorem reportBoot_commit (o : BootOutcome) (s : State) : (reportBoot o s).commit = s.commit := (reportBoot_step o s).commit
@[simp] theorem reportBoot_store (o : BootOutcome) (s : State) : (reportBoot o s).store = s.store := (reportBoot_step o s).store
@[simp] theorem reportBoot_nv (o : BootOutcome) (s : State) : (reportBoot o s).nv = s.nv := (reportBoot_step o s).nv
@[simp] theorem reportBoot_freeCount (o : BootOutcome) (s : State) : (reportBoot o s).freeCount = s.freeCount := (reportBoot_step o s).freeCount

end Sys2Proof.Machine
end

