-- ==== Sys2Proof/Laws/Ops.lean ====
section
/-! SUPPORT. What each shared operation does in the cases that the statements name: taking and answering a request, raising a notice
into a free place, and the swap. -/

namespace Sys2Proof.Machine

/-! ### The pending set -/

/-- R158: nothing is pending exactly when no kind is. -/
theorem firstPending_eq_none (n : NoticeUnit) : n.firstPending = none ↔ ∀ k, n.isPending k = false := by
  constructor
  · intro h k
    have := List.find?_eq_none.1 h k
    have mem : k ∈ noticeOrder := by
      cases k with
      | completion k => cases k <;> decide
      | unsolicited k => cases k <;> decide
    simpa using this mem
  · intro h
    exact List.find?_eq_none.2 fun k _ => by simp [h k]

/-- R158: a kind that alone is pending takes the next free place. -/
theorem firstPending_of_only {n : NoticeUnit} {k : NoticeKind} (hk : n.isPending k = true)
    (others : ∀ j, j ≠ k → n.isPending j = false) : n.firstPending = some k := by
  cases k with
  | completion k => cases k <;> simp [NoticeUnit.firstPending, noticeOrder, others, hk]
  | unsolicited k => cases k <;> simp [NoticeUnit.firstPending, noticeOrder, others, hk]

/-- R158: with nothing pending nothing is formed. -/
theorem offerNotice_of_none {s : State} (h : s.notices.firstPending = none) : offerNotice s = s := by
  simp [offerNotice, h]

/-- R158: without a free place nothing is formed. -/
theorem offerNotice_of_full {s : State} (h : 4 ≤ s.localQ.length) : offerNotice s = s := by
  simp [offerNotice, localRoom, Nat.not_lt.2 h]

/-- R158: a free place goes to the first pending notice. -/
theorem offerNotice_of_room {s : State} {k : NoticeKind} (room : s.localQ.length < 4) (h : s.notices.firstPending = some k) :
    offerNotice s = formNotice k s := by
  simp [offerNotice, localRoom, room, h]

/-- A completion kind keeps its own places. -/
theorem index_injective {j k : CompletionKind} (h : j.index = k.index) : j = k := by
  revert h; cases j <;> cases k <;> decide

/-- R151: the places of the other kinds are left alone. -/
theorem completions_set_ne (v : Vector CompletionPlaces 7) (p : CompletionPlaces) {j k : CompletionKind} (h : j ≠ k) :
    (v.set k.index p)[j.index] = v[j.index] :=
  Vector.getElem_set_ne _ _ fun e => h (index_injective (Fin.ext e)).symm

/-- R151: the places of the kind itself. -/
theorem completions_set_self (v : Vector CompletionPlaces 7) (p : CompletionPlaces) (k : CompletionKind) :
    (v.set k.index p)[k.index] = p := Vector.getElem_set_self _

/-- R151, R158: a completion that is raised while no notice is pending takes a free place at once. -/
theorem raiseCompletion_of_quiet {s : State} (tag : Byte) (what : Completion) (room : s.localQ.length < 4) (h : Quiet s) :
    raiseCompletion tag what s = noticed tag what.kind.code what.data s := by
  obtain ⟨calm, follower⟩ := h
  have free := (firstPending_eq_none _).1 calm
  have own : s.notices.completions[what.kind.index] = { pending := none, follower := none } := by
    have h1 := free (.completion what.kind)
    have h2 := follower what.kind.index
    simp only [NoticeUnit.isPending] at h1
    generalize s.notices.completions[what.kind.index] = c at *
    cases c; simp_all
  have back : s.notices.completions.set what.kind.index { pending := none, follower := none } = s.notices.completions := by
    rw [← own]; exact Vector.set_getElem_self _
  simp only [raiseCompletion, own]
  rw [offerNotice_of_room (k := .completion what.kind) (by exact room)]
  · simp only [formNotice, formCompletion, completions_set_self, pushLocal, noticed, addressByte, Vector.set_set, back]
  · apply firstPending_of_only
    · simp [NoticeUnit.isPending, -Fin.getElem_fin, completions_set_self]
    · intro j hj
      cases j with
      | completion j =>
        have ne : j ≠ what.kind := fun e => hj (e ▸ rfl)
        simpa only [NoticeUnit.isPending, completions_set_ne _ _ ne] using free (.completion j)
      | unsolicited j => exact free (.unsolicited j)

/-- R151: a completion that is raised while no place is free stays pending. -/
theorem raiseCompletion_of_full {s : State} (tag : Byte) (what : Completion) (full : 4 ≤ s.localQ.length)
    (h : (s.notices.completions[what.kind.index]).pending = none) :
    raiseCompletion tag what s = { s with notices := { s.notices with
      completions := s.notices.completions.set what.kind.index
        { pending := some { tag := tag, what := what }, follower := (s.notices.completions[what.kind.index]).follower } } } := by
  simp only [raiseCompletion, h]
  exact offerNotice_of_full full

/-- R152, R158: an unsolicited kind that becomes pending alone takes a free place at once. -/
theorem offerNotice_of_unsolicited {s : State} {n : NoticeUnit} (k : UnsolicitedKind) (room : s.localQ.length < 4)
    (calm : s.notices.firstPending = none) (same : n.completions = s.notices.completions) (own : n.outstanding k = .pending)
    (others : ∀ j, j ≠ k → n.outstanding j = s.notices.outstanding j) :
    offerNotice { s with notices := n } = formUnsolicited k { s with notices := n } := by
  have free := (firstPending_eq_none _).1 calm
  refine offerNotice_of_room (k := .unsolicited k) room (firstPending_of_only ?_ ?_)
  · simp [NoticeUnit.isPending, own]
  · intro j hj
    cases j with
    | completion j => simpa only [NoticeUnit.isPending, same] using free (.completion j)
    | unsolicited j =>
      have ne : j ≠ k := fun e => hj (e ▸ rfl)
      simpa only [NoticeUnit.isPending, others j ne] using free (.unsolicited j)

/-- R153: an overrun that is reported to an enabled kind that is IDLE takes a free place at once. -/
theorem reportOverrun_of_roomy {s : State} (on : s.notices.mask.getLsbD 1 = true) (idle : s.notices.overrun = .idle)
    (room : Roomy s) : reportOverrun s = noticed 0 0x02 (wordBytes s.counters.uOverrun)
      { s with notices := { s.notices with overrun := .queued, overrunSet := false } } := by
  have on' : s.notices.enabled .overrun = true := on
  simp only [reportOverrun, on', if_true, idle]
  exact offerNotice_of_unsolicited .overrun room.1 room.2 rfl rfl (by intro j; cases j <;> simp [NoticeUnit.outstanding])

/-- R154: a group that is reported to an enabled SEQUENCE that is IDLE takes a free place at once. -/
theorem reportSequence_of_roomy {s : State} (g : Fin 16) (on : s.notices.mask.getLsbD 2 = true)
    (idle : s.notices.sequence = .idle) (room : Roomy s) : reportSequence g s =
      noticed 0 0x03 (halfBytes (s.notices.accumulator ||| (1#16 <<< g.val)))
        { s with notices := { s.notices with accumulator := 0, sequence := .queued } } := by
  have on' : s.notices.enabled .sequence = true := on
  simp only [reportSequence, on', if_true, idle]
  exact offerNotice_of_unsolicited .sequence room.1 room.2 rfl rfl (by intro j; cases j <;> simp [NoticeUnit.outstanding])

/-- R155: a boot outcome that is reported to an enabled BOOT_DONE takes a free place at once. -/
theorem reportBoot_of_roomy {s : State} (o : BootOutcome) (on : s.notices.mask.getLsbD 0 = true) (room : Roomy s) :
    reportBoot o s = noticed 0 0x01 o.data
      { s with notices := { s.notices with bootDone := .queued, bootOutcome := none } } := by
  have on' : s.notices.enabled .bootDone = true := on
  simp only [reportBoot, on', if_true]
  exact offerNotice_of_unsolicited .bootDone room.1 room.2 rfl rfl (by intro j; cases j <;> simp [NoticeUnit.outstanding])

/-- R155, R158: while the local queue is full an enabled boot outcome is PENDING. -/
theorem reportBoot_of_full {s : State} (o : BootOutcome) (on : s.notices.mask.getLsbD 0 = true) (full : 4 ≤ s.localQ.length) :
    reportBoot o s = { s with notices := { s.notices with bootDone := .pending, bootOutcome := some o } } := by
  have on' : s.notices.enabled .bootDone = true := on
  simp only [reportBoot, on', if_true]
  exact offerNotice_of_full full

/-- R156: a disabled BOOT_DONE changes nothing. -/
theorem reportBoot_of_disabled {s : State} (o : BootOutcome) (off : s.notices.mask.getLsbD 0 = false) : reportBoot o s = s := by
  have off' : s.notices.enabled .bootDone = false := off
  simp [reportBoot, off']

/-- R188, R189: with a candidate left its load starts and the slot joins the tried set. -/
theorem chooseCandidate_of_some {s : State} {r : BootRecord} {slot : Fin 4} {generation : Word} (boot : s.boot = some r)
    (h : candidate s.store r.tried = some (slot, generation)) :
    chooseCandidate s = { s with
      boot := some { phase := .load, candidate := some (slot, generation), tried := r.tried ++ [slot] }
      shadow := .loading
      store := { s.store with op := some (.load none slot) } } := by
  simp [chooseCandidate, boot, h]

/-- R192: without a candidate the boot ends with the empty bank. -/
theorem chooseCandidate_of_none {s : State} {r : BootRecord} (boot : s.boot = some r) (h : candidate s.store r.tried = none) :
    chooseCandidate s = endBootEmpty s := by
  simp [chooseCandidate, boot, h]

/-! ### The lanes at a restart -/

/-- R72: a READY transmitter sends IDLE. -/
@[simp] theorem laneAfterRestart_ready {α : Type} (endSent : Bool) : laneAfterRestart (.ready : Send α) endSent = .idle := rfl

/-- R72, log 13: a frame that is being sent is cut off unless its END had been sent. -/
@[simp] theorem laneAfterRestart_sending {α : Type} (f : α) (endSent : Bool) :
    laneAfterRestart (.sending f) endSent = if endSent then .idle else .cut := rfl

/-! ### Requests -/

/-- R185: out of hard reset an event has its effect. -/
@[simp] theorem unlessHeld_of_running {s : State} (after : State) (h : s.held = false) : unlessHeld s after = .next after := by
  simp [unlessHeld, h]

/-- R134: whether a response finds a place, as the engine decides it and as the statements say it. -/
theorem responseRoom_eq (s : State) : responseRoom s = decide (Roomy s) := by
  have : s.notices.firstPending.isNone = decide (s.notices.firstPending = none) := by
    generalize s.notices.firstPending = k; cases k <;> simp
  simp [responseRoom, localRoom, this]

/-- R93, R133, R134: an IDLE engine's answer enters the local queue at once, or is held. -/
theorem respond_of_idle {s : State} (f : RequestFrame) (a : Answer) (idle : s.engine = .idle) (h : a.late = none)
    (h' : a.restart = none) : respond f a s = answeredWith f a.result a.data s := by
  by_cases here : Roomy s
  · have here' : responseRoom s = true := by simp [responseRoom_eq, here]
    simp only [respond, h, h', offerAnswer, here', if_true, ite_self, engineHolding, answeredWith, responseTo, addressByte, pushLocal]
    rw [if_pos here, ← idle]
  · have here' : responseRoom s = false := by simp [responseRoom_eq, here]
    simp only [respond, h, h', offerAnswer, here', engineHolding, answeredWith, responseTo, addressByte]
    rw [if_neg here]
    simp

/-- R127, R128: a request that a step of the judgement refuses is answered so, and changes nothing but its answer. -/
theorem takeRequest_of_refused {r : RequestRules} {run : RequestFrame → State → State × Answer} {s : State} {f : RequestFrame}
    {rest : List ReverseFrame} {refusal : Result} (h : Takes r.code f rest s)
    (judged : judgeRequest r f { s with requestQ := rest } = some refusal) :
    takeRequest r run s = answeredWith f refusal [] { s with requestQ := rest } := by
  have answer : respond f (plainAnswer refusal) { s with requestQ := rest } =
      answeredWith f refusal [] { s with requestQ := rest } := respond_of_idle f _ h.2.1 rfl rfl
  obtain ⟨_, idle, head, code⟩ := h
  unfold takeRequest
  split
  case h_2 no => exact absurd head (no f rest idle)
  case h_1 g others _ here =>
    obtain ⟨rfl, rfl⟩ : g = f ∧ others = rest := by simpa [here] using head
    simp only [code, if_true]
    split
    · next other found => rw [judged] at found; cases found; exact answer
    · next found => rw [judged] at found; cases found

/-- R127, R128, R133: a request that passes every step runs, and is answered. -/
theorem takeRequest_of_passed {r : RequestRules} {run : RequestFrame → State → State × Answer} {s t : State} {f : RequestFrame}
    {rest : List ReverseFrame} {a : Answer} (h : Takes r.code f rest s)
    (judged : judgeRequest r f { s with requestQ := rest } = none) (ran : run f { s with requestQ := rest } = (t, a)) :
    takeRequest r run s = respond f a t := by
  obtain ⟨_, idle, head, code⟩ := h
  unfold takeRequest
  split
  case h_2 no => exact absurd head (no f rest idle)
  case h_1 g others _ here =>
    obtain ⟨rfl, rfl⟩ : g = f ∧ others = rest := by simpa [here] using head
    simp only [code, if_true]
    split
    · next other found => rw [judged] at found; cases found
    · rw [ran]

/-! ### Banks -/

/-- R45: the other bank of the other bank. -/
@[simp] theorem other_other (n : BankName) : n.other.other = n := by cases n <;> rfl

/-- R1: a new shadow leaves the ACTIVE bank as it was. -/
@[simp] theorem activeBank_setShadowBank (new : Bank) (s : State) : activeBank (setShadowBank new s) = activeBank s := by
  cases h : s.active <;> simp [activeBank, setShadowBank, bankNamed, h]

/-- R1: a new shadow is the shadow. -/
@[simp] theorem shadowBank_setShadowBank (new : Bank) (s : State) : shadowBank (setShadowBank new s) = new := by
  cases h : s.active <;> simp [shadowBank, setShadowBank, bankNamed, BankName.other, h]

/-- R60: a swap of a commit of origin REQUEST has the effects of R60 and raises COMMIT_DONE SWAPPED. -/
theorem swap_of_request {s : State} {r : CommitRecord} {tag : Byte} (h : s.commit = some r) (origin : r.origin = .request)
    (kept : r.tag = some tag) : swap s = raiseCompletion tag (.commitSwapped s.active.other) (afterSwap s) := by
  have trackers : swapTrackers (activeBank s) (shadowBank s) s.trackers = (afterSwap s).trackers := by
    apply Vector.ext
    intro i hi
    cases ha : s.active <;> simp [swapTrackers, afterSwap, activeBank, shadowBank, bankNamed, BankName.other, ha] <;>
      congr 1 <;> simp only [eq_iff_iff] <;> by_cases h1 : modeOf s.bankA ⟨i, hi⟩ = .process <;>
        by_cases h2 : modeOf s.bankB ⟨i, hi⟩ = .process <;> simp [h1, h2]
  cases r
  simp_all [swap, afterSwap]

/-! ### Interruption (R183, R64, R195, R185) -/

/-- R161: the check is taken over the other fields alone. -/
theorem dirCheck_check (c : DirCopy) (w : Word) : dirCheck { c with check := w } = dirCheck c := rfl

/-- R161, R180: a copy that a write has finished is valid with its setting. -/
theorem copySetting_writtenCopy (d : DirSetting) (sequence : Half) : copySetting (writtenCopy d sequence) = some d := by
  have boot : bootSlotOf (bootByte d.boot) = some d.boot := by
    cases d.boot with
    | none => rfl
    | some slot =>
      revert slot
      decide
  have mask : ∀ m : BitVec 4, (m.setWidth 8).toNat < 16 ∧ (m.setWidth 8).setWidth 4 = m := by decide
  unfold copySetting
  rw [if_pos ⟨rfl, (mask d.mask).1⟩]
  simp only [writtenCopy, boot, mask, Option.map_some]

/-- R183: a copy whose write did not finish is not valid. -/
theorem copySetting_unfinishedCopy (c : DirCopy) : copySetting (unfinishedCopy c) = none := by
  have flips : ∀ w : Word, ~~~ w ≠ w := by
    intro w h
    have := congrArg (BitVec.getLsbD · 0) h
    simp at this
  have differs : (unfinishedCopy c).check ≠ dirCheck (unfinishedCopy c) := by
    simp only [unfinishedCopy, dirCheck_check]
    split
    · rename_i h
      rw [h]
      exact flips _
    · assumption
  simp only [copySetting, differs, false_and, if_false]

/-- R183: what an interruption leaves in the store. -/
theorem interruptedNv_spec (op : Option StoreOp) (n : Nat) (nv : NvStore) : Interrupted op nv (interruptedNv op n nv) := by
  have others : ∀ (slot i : Fin 4) (v : NvSlot), i ≠ slot → (nv.slots.set slot v)[i] = nv.slots[i] := by
    intro slot i v h
    exact Vector.getElem_set_ne _ _ fun e => h (Fin.ext e).symm
  match op with
  | some (.save _ slot _ _) => exact ⟨by simp [interruptedNv, NvStore.setSlot], fun i h => others slot i _ h, rfl, rfl⟩
  | some (.erase _ slot) =>
    refine ⟨?_, fun i h => others slot i _ h, rfl, rfl⟩
    cases h : Config.eraseLeftErased n <;> simp [interruptedNv, NvStore.setSlot, h]
  | some (.dirWrite _ _ .copy0 _) => exact ⟨copySetting_unfinishedCopy _, rfl, rfl⟩
  | some (.dirWrite _ _ .copy1 _) => exact ⟨copySetting_unfinishedCopy _, rfl, rfl⟩
  | some .scan => exact rfl
  | some (.load _ _) => exact rfl
  | none => exact rfl

/-- R64: the shadow that an interruption leaves. -/
def shadowAfterEnd (s : State) : Bank :=
  match s.shadow with
  | .copying _ | .loading => Bank.empty
  | .editable | .validating _ _ | .armed => shadowBank s

/-- R64: the end of the bank controller's work changes the shadow, its state and the commit record alone. -/
theorem endBankWork_eq (s : State) :
    endBankWork s = { setShadowBank (shadowAfterEnd s) s with shadow := .editable, commit := none } := by
  have same : setShadowBank (shadowBank s) s = s := by
    cases h : s.active <;> simp only [setShadowBank, shadowBank, bankNamed, BankName.other, h] <;> cases s <;> simp_all
  cases h : s.shadow <;> simp [endBankWork, shadowAfterEnd, h, same]

end Sys2Proof.Machine
end

