-- ==== Sys2Proof/WellFormed.lean ====
section
/-! DEFINITION. Which commands are well formed: the one operand whose shape the spec fixes and the type does not. -/

namespace Sys2Proof

/-- A body is 1584 bytes (R79, R160), so what a load reads in place of the stored body is 1584 bytes too. -/
def BodyRead.wellFormed : BodyRead → Bool
  | .asStored => true
  | .changed bytes => bytes.length == 1584

/-- A command is well formed when its operands have the shape the spec gives them. -/
def Instr.wellFormed : Instr → Bool
  | .hardReset _ | .hardResetRelease _ | .checkError _ | .malformed _ _ | .forwardFrameAccepted
  | .intakeSampleFrame | .intakePassingFrame | .waitingFramePlaced | .correctionDone | .stalledOutputPlaced
  | .dFrameStart | .dFrameSent | .uFrameStart | .uFrameSent | .requestFrame | .enumerateFrame
  | .holdFrame | .releaseFrame | .holdTimerExpiry | .refreshTimerExpiry | .commitTimerExpiry
  | .enumerateTaken | .badCode | .identify | .readStatus | .setLink | .restart | .releaseAddress
  | .writeGroup | .writeMap | .writeCurve | .writePoints | .readTable | .readCounters | .evaluate
  | .copyActive | .clearShadow | .validate | .commit | .cancelCommit
  | .storeDirectory | .storeSave | .storeLoad | .storeErase | .storeSetBoot | .storeProtect
  | .heldResponseEnters | .successorEnters | .noticeFormed | .copyComplete | .testComplete
  | .saveComplete _ | .eraseComplete _ | .directoryWriteComplete _ | .scanComplete
  | .frameOpens _ | .dataByteAppended _ _ => true
  | .loadComplete read => read.wellFormed

end Sys2Proof
end

