-- ==== Sys2Proof/Tests/Slice0.lean ====
section
/-! SUPPORT. Small tests, their expected values taken from the worked examples of the spec or calculated by hand from its rules, and for every
statement of Certificates/Slice0/Obligations.lean that has hypotheses one theorem, witness_<Name>, that meets them. -/

namespace Sys2Proof.Tests

open Sys2Proof.Machine

-- The theorems of this file are checked one after another: many at once would each hold a thread of their own.
set_option Elab.async false

/-! ### Well-formedness (WellFormed.lean) -/

theorem test_wellFormed_refuses_short_body : (Instr.loadComplete (.changed [])).wellFormed = false := by decide

theorem test_wellFormed_accepts_stored_body : (Instr.loadComplete .asStored).wellFormed = true := by decide

/-- No row of the table gives bits, so no word spells a command. -/
theorem test_decode_none : decodeTableWord 16 0x1234 = none := by decide

/-! ### Checks (R69, R79) -/

theorem test_frameCheck_of_nine_digits : frameCheck [0x31, 0x32, 0x33, 0x34, 0x35, 0x36, 0x37, 0x38, 0x39] = 0x29B1 := by
  decide +kernel

theorem test_bodyCheck_of_nine_digits : bodyCheck [0x31, 0x32, 0x33, 0x34, 0x35, 0x36, 0x37, 0x38, 0x39] = 0xCBF43926 := by
  decide +kernel

/-! ### Curves: the worked examples 2.7 and 2.8 -/

/-- A signed 16-bit value. -/
def half (v : Int) : Half := BitVec.ofInt 16 v

/-- The points of a curve from pairs of numbers. -/
def pts (l : List (Int × Int)) : List Point := l.map fun p => { x := half p.1, y := half p.2 }

/-- Curve 2 of example 2.7. -/
def curve27 : List Point := pts [(-2000, -1000), (0, 100), (4000, 3101)]

/-- Curve 6 of example 2.8. -/
def curve28 : List Point := pts [(0, 0), (10, 25), (20, 32000)]

theorem test_curve_of_2_7 :
    (evalCurve curve27 .clamp (half 2000)).value = half 1601 ∧ (evalCurve curve27 .clamp (half (-1499))).value = half (-724) ∧
    evalCurve curve27 .clamp (half 9000) = { value := half 3101, range := true, sat := false } ∧
    (evalCurve curve27 .clamp (half 0)).value = half 100 := by decide +kernel

theorem test_curve_of_2_8 :
    evalCurve curve28 .extend (half 15) = { value := half 16013, range := false, sat := false } ∧
    evalCurve curve28 .extend (half (-1)) = { value := half (-3), range := true, sat := false } ∧
    evalCurve curve28 .extend (half 30) = { value := half 32767, range := true, sat := true } ∧
    evalCurve curve28 .extend (half (-32768)) = { value := half (-32768), range := true, sat := true } ∧
    evalCurve curve28 .mark (half 30) = { value := half (-32768), range := true, sat := false } := by decide +kernel

/-! ### Validation: the worked example 1.9 -/

/-- A map slot under PASS or CORRECT. -/
def entry (group pos : Fin 16) (action : Action) (curve : Fin 32) (out : Fin 16) : Option MapEntry :=
  some { group := group, pos := pos, action := action, curve := curve, out := out }

/-- The shadow bank of example 1.9, with point 4 and the mode of group 4 as the example changes them. -/
def bank19 (point4 : Int × Int) (mode4 : GroupMode) : Bank :=
  { groups := (Bank.empty.groups.set 0 { mode := .process, out := 4, emit := 0 }).set 2 { mode := .block, out := 2, emit := 0 }
      |>.set 4 { mode := mode4, out := 4, emit := 0 },
    slots := (((Bank.empty.slots.set 0 (entry 0 0 .correct 0 1)).set 1 (entry 0 3 .pass 0 0)).set 5 (entry 0 1 .correct 1 2)).set 9
      (entry 3 0 .correct 7 0),
    curves := (Bank.empty.curves.set 0 (some { start := 0, count := 3, policy := .clamp })).set 1
      (some { start := 2, count := 3, policy := .extend }),
    points := Vector.ofFn fun i =>
      (pts [(-1000, -500), (0, 0), (1000, 800), (2000, 1900), point4]).getD i.val { x := 0, y := 0 } }

theorem test_validation_of_1_9 :
    testBank (bank19 (1500, 2100) .bypass) = some { kind := .curveOrder, index := 1 } ∧
    testBank (bank19 (3000, 2950) .bypass) = some { kind := .groupClash, index := 4 } ∧
    testBank (bank19 (3000, 2950) .block) = none ∧
    (recordEmits (bank19 (3000, 2950) .block)).groups[0] = { mode := .process, out := 4, emit := 3 } := by decide +kernel

/-! ### States for the tests -/

/-- A part that is RUNNING with nothing in progress. -/
def running : State :=
  { State.reset with mode := .running, boot := none, store := { State.reset.store with op := none } }

/-- A request frame with tag 33h. -/
def ask (code : Byte) (params : List Byte) : RequestFrame :=
  { target := 0, tag := 0x33, code := code, params := params, check := 0 }

/-- A state whose request queue holds one request. -/
def asked (code : Byte) (params : List Byte) (s : State) : State := { s with requestQ := [.request (ask code params)] }

/-- The state a command leads to. -/
def after (c : Instr) (s : State) : State :=
  match exec c s with
  | .next t => t
  | _ => s

/-- Whether a command answers a next state. -/
def runs (c : Instr) (s : State) : Bool :=
  match exec c s with
  | .next _ => true
  | _ => false

theorem exec_eq_after (c : Instr) (s : State) (h : runs c s = true) : exec c s = .next (after c s) := by
  unfold runs at h
  unfold after
  split at h <;> simp_all

/-- The result of the newest frame of the local queue, when it is a response. -/
def lastResult (s : State) : Option Byte :=
  match s.localQ.getLast? with
  | some (.response r) => some r.result
  | _ => none

/-- The code and the data of the newest frame of the local queue, when it is a notice. -/
def lastNotice (s : State) : Option (Byte × List Byte) :=
  match s.localQ.getLast? with
  | some (.notice n) => some (n.code, n.data)
  | _ => none

/-! ### Frames (chapter 4), the check bytes calculated by hand from R69 -/

theorem test_release_is_accepted : judge .d [0x07, 0x91, 0x17] = .accepted (.link (.release 0x9117)) := by decide +kernel

theorem test_release_at_u_is_malformed : judge .u [0x07, 0x91, 0x17] = .malformed := by decide +kernel

theorem test_hold_is_accepted : judge .d [0x06, 0x40, 0xFF, 0x6D] = .accepted (.link (.hold 0x40 0xFF6D)) := by decide +kernel

theorem test_hold_of_duration_0_fails_its_check : judge .d [0x06, 0x00, 0xFF, 0x6D] = .checkError := by decide +kernel

/-! ### The correction of a frame: the worked example 2.7 -/

/-- The ACTIVE bank of example 2.7; group 9 is BLOCK, so that the bank is valid. -/
def bank27 : Bank :=
  { groups := (Bank.empty.groups.set 5 { mode := .process, out := 9, emit := 2 }).set 9 { mode := .block, out := 9, emit := 0 }
    slots := (Bank.empty.slots.set 3 (entry 5 0 .correct 2 1)).set 4 (entry 5 3 .pass 2 0)
    curves := Bank.empty.curves.set 2 (some { start := 10, count := 3, policy := .clamp })
    points := ((Bank.empty.points.set 10 { x := half (-2000), y := half (-1000) }).set 11 { x := half 0, y := half 100 }).set 12
      { x := half 4000, y := half 3101 } }

/-- A frame of group 5. -/
def frame27 (sequence flags : Byte) (samples : List Int) : SampleFrame := buildSample 5 sequence flags (samples.map half)

/-- Frame 1 of example 2.7. -/
def frame1 : SampleFrame := frame27 42 0 [2000, -1500, 9000, 777]

/-- A running part with bank27 in service. -/
def running27 : State := { running with bankA := bank27 }

theorem test_first_frame_of_2_7 :
    correctedFrame bank27 frame1 false = buildSample 9 42 0x01 [half 777, half 1601] := by decide +kernel

theorem test_other_frames_of_2_7 :
    correctedFrame bank27 (frame27 44 0 [9000, 0, 0, -5]) true = buildSample 9 44 0x07 [half (-5), half 3101] ∧
    correctedFrame bank27 (frame27 45 0 [-1499, 12, 300]) false = buildSample 9 45 0x11 [half (-32768), half (-724)] ∧
    correctedFrame bank27 (frame27 46 0x02 [0, 1, 2, 3]) false = buildSample 9 46 0x03 [half 3, half 100] := by decide +kernel

/-- Example 2.7, frame 1: its check bytes and those of its output, calculated by hand from R69. -/
theorem test_frame_bytes_of_2_7 :
    (ForwardFrame.sample frame1).bytes = [1, 5, 42, 0, 4, 0x07, 0xD0, 0xFA, 0x24, 0x23, 0x28, 0x03, 0x09, 0x00, 0x93] ∧
    (ForwardFrame.sample (correctedFrame bank27 frame1 false)).bytes = [1, 9, 42, 1, 2, 0x03, 0x09, 0x06, 0x41, 0xC1, 0xCD] := by
  decide +kernel

/-- A part whose stage holds a frame of group 5 bound to bank A. -/
def correcting (f : SampleFrame) (tracker : Tracker) : State :=
  { running27 with intake := .correcting, stage := .bound f .a, trackers := running27.trackers.set 5 tracker }

theorem test_gap_of_2_7 :
    let t := after .correctionDone (correcting (frame27 44 0 [9000, 0, 0, -5]) (.synced 42))
    t.groupCounts[5] = { gap := 1, dup := 0 } ∧ t.slotCounts[3] = { sat := 0, range := 1 } ∧ t.trackers[5] = .synced 44 ∧
      lastNotice t = some (0x03, [0x00, 0x20]) := by decide +kernel

theorem test_duplicate_of_2_7 :
    let t := after .correctionDone (correcting (frame27 45 0 [6, 6, 6, 6]) (.synced 45))
    t.groupCounts[5] = { gap := 0, dup := 1 } ∧ t.counters.duplicates = 1 ∧ t.egress = [] ∧ t.stage = .idle := by decide +kernel

/-! ### The chain address: the worked example 6.11 -/

/-- A part whose request queue holds one Enumerate. -/
def enumerated (next : Fin 32) (s : State) : State := { s with requestQ := [.enumerate (buildEnum next 0x70)] }

theorem test_addresses_of_6_11_1 :
    (let t := after .enumerateTaken (enumerated 30 running)
     t.address = 30 ∧ lastResult t = some 0x00 ∧ t.reverseQ = [.enumerate (buildEnum 31 0x70)]) ∧
    (let t := after .enumerateTaken (enumerated 31 running)
     t.address = 0 ∧ lastResult t = some 0x0B ∧ t.reverseQ = [.enumerate (buildEnum 31 0x70)]) := by decide +kernel

theorem test_repeated_enumerate_of_6_11_2 :
    let t := after .enumerateTaken (enumerated 1 { running with address := 1 })
    t.address = 1 ∧ lastResult t = some 0x03 ∧ t.reverseQ = [] := by decide +kernel

/-! ### Requests: the rows of the worked example 7.6 -/

theorem test_checks_of_7_6 :
    let copying : State := { running with shadow := .copying 0x11 }
    lastResult (after .badCode (asked 0x17 [] running)) = some 0x04 ∧
    lastResult (after .writePoints (asked 0x13 [0, 0, 0, 0, 0, 0] running)) = some 0x05 ∧
    lastResult (after .evaluate (asked 0x16 [0, 0] running)) = some 0x05 ∧
    lastResult (after .writeGroup (asked 0x10 [3, 7, 0] State.reset)) = some 0x03 ∧
    lastResult (after .readTable (asked 0x14 [1, 0, 0, 1] State.reset)) = some 0x03 ∧
    lastResult (after .readTable (asked 0x14 [0, 1, 60, 5] State.reset)) = some 0x06 ∧
    lastResult (after .writeGroup (asked 0x10 [16, 1, 0] copying)) = some 0x06 ∧
    lastResult (after .writeCurve (asked 0x12 [4, 1, 250, 8, 0] running)) = some 0x06 ∧
    lastResult (after .writeCurve (asked 0x12 [4, 0, 250, 8, 0] running)) = some 0x00 := by decide +kernel

theorem test_more_checks_of_7_6 :
    let loading : State := { running with shadow := .loading }
    let armed : State := { running with shadow := .armed }
    lastResult (after .readCounters (asked 0x15 [1, 8, 10, 0] running)) = some 0x06 ∧
    lastResult (after .setLink (asked 0x03 [0, 7] running)) = some 0x06 ∧
    lastResult (after .restart (asked 0x04 [2] running)) = some 0x06 ∧
    lastResult (after .evaluate (asked 0x16 [1, 3, 0, 0] loading)) = some 0x02 ∧
    lastResult (after .evaluate (asked 0x16 [1, 3, 0, 0] running)) = some 0x06 ∧
    lastResult (after .writeMap (asked 0x11 [9, 1, 0, 0, 0, 7, 0] armed)) = some 0x02 ∧
    lastResult (after .writeMap (asked 0x11 [9, 1, 0, 0, 0, 7, 0] running)) = some 0x00 := by decide +kernel

/-! ### Notices: steps of the worked example 8.7 -/

/-- The response R1 of example 8.7. -/
def someResponse : ResponseFrame := buildResponse 4 0x01 0x01 0x00 []

/-- A local queue of `n` responses. -/
def answers (n : Nat) : List LocalFrame := List.replicate n (.response someResponse)

/-- Step 9: the place that R3 frees goes to SEQUENCE, whose mask names groups 2 and 7. -/
theorem test_sequence_notice_of_8_7 :
    let s : State := { running with
      localQ := answers 3, notices := { running.notices with sequence := .pending, accumulator := 0x0084 } }
    let t := after .noticeFormed s
    lastNotice t = some (0x03, [0x00, 0x84]) ∧ t.notices.sequence = .queued ∧ t.notices.accumulator = 0 := by decide +kernel

/-- Step 13: OV(3) starts while its indication is SET, so that OVERRUN is PENDING and its indication CLEAR. -/
theorem test_overrun_again_of_8_7 :
    let s : State := { running with
      localQ := [.notice (buildNotice 4 0 0x02 [0, 0, 0, 3])]
      notices := { running.notices with overrun := .queued, overrunSet := true } }
    let t := after .dFrameStart s
    t.notices.overrun = .pending ∧ t.notices.overrunSet = false ∧ t.counters.dLocal = 1 := by decide +kernel

/-! ### The store: steps of the worked example 9.11 -/

/-- A VALID slot without a label. -/
def info (generation : Word) : SlotInfo := { generation := generation, label := Vector.replicate 8 0, length := 1584 }

/-- The store of example 9.11. -/
def running911 : State :=
  { running with
    store := {
      op := none, buffer := none
      table := #v[.valid (info 7), .valid (info 9), .empty, .incomplete]
      view := { setting := { boot := some 1, fallback := true, mask := 1 }, inForce := some .copy0, sequence := 12 } } }

/-- The label of eight zero bytes. -/
def noLabel : List Byte := List.replicate 8 0

theorem test_steps_1_2_3_of_9_11 :
    let writing := after .storeProtect (asked 0x35 [0] running911)
    lastResult (after .storeSave (asked 0x31 (1 :: 0 :: noLabel) running911)) = some 0x07 ∧
    lastResult writing = some 0x01 ∧
    writing.store.op = some (.dirWrite 0x33 { boot := some 1, fallback := true, mask := 0 } .copy1 13) ∧
    lastResult (after .storeSave (asked 0x31 (1 :: 2 :: noLabel) writing)) = some 0x02 := by decide +kernel

theorem test_step_5_of_9_11 :
    let t := after .storeSave (asked 0x31 (0 :: 3 :: noLabel) running911)
    lastResult t = some 0x01 ∧ t.store.op = some (.save 0x33 3 10 (Vector.replicate 8 0)) ∧ t.store.table[3] = .incomplete := by
  decide +kernel

theorem test_steps_4_and_12_of_9_11 :
    let writing (d : DirSetting) (target : CopyName) (n : Half) : State :=
      { running911 with store := { running911.store with op := some (.dirWrite 0x40 d target n) } }
    lastNotice (after (.directoryWriteComplete .same) (writing { boot := some 1, fallback := true, mask := 0 } .copy1 13)) =
      some (0x23, [0x00, 0x01, 0x01, 0x00]) ∧
    lastNotice (after (.directoryWriteComplete (.differs erasedCopy)) (writing { boot := some 3, fallback := true, mask := 0 } .copy0 14)) =
      some (0x23, [0x0C, 0x01, 0x01, 0x01]) := by decide +kernel

/-! ### Witnesses: each meets the hypotheses of one statement, clause by clause, at boundary values -/

/-- The part held in hard reset. -/
def heldPart : State := { State.reset with held := true }

/-- A part whose receivers are assembling the given bytes. -/
def receiving (bytes : List Byte) (s : State) : State := { s with uRx := .assembling bytes, dRx := .assembling bytes }

/-- A forward frame, as a value and as bytes. -/
def fwd : ForwardFrame := .sample frame1

/-- `n` forward frames. -/
def line (n : Nat) : List ForwardFrame := List.replicate n fwd

/-- A request for a target. -/
def requestFor (target : Fin 32) : RequestFrame :=
  let f : RequestFrame := { target := target, tag := 0x33, code := 0x01, params := [], check := 0 }
  { f with check := frameCheck f.body }

/-- A part with its local queue full. -/
def crowded (s : State) : State := { s with localQ := answers 4 }

/-- A commit of origin REQUEST. -/
def commit31 (mode : CommitMode) (timer : Bool) : CommitRecord :=
  { origin := .request, tag := some 0x31, mode := mode, timeout := 1000, timer := timer }

/-- A part with a commit ARMED. -/
def armed (mode : CommitMode) (timer : Bool) (s : State) : State :=
  { s with shadow := .armed, commit := some (commit31 mode timer) }

/-- A part whose engine takes a request with the given code and parameters. -/
theorem takes_asked (code : Byte) (params : List Byte) (s : State) (h : s.held = false) (he : s.engine = .idle) :
    Takes code (ask code params) [] (asked code params s) := ⟨h, he, rfl, rfl⟩

theorem witness_StepRunsFrontCommand :
    ({ running with pending := [.noticeFormed, .holdFrame] } : State).pending = .noticeFormed :: [.holdFrame] ∧
    running.pending = [] := ⟨rfl, rfl⟩

theorem witness_EveryCommandCompletes :
    heldPart.held = true ∧ (∀ cause, Instr.holdFrame ≠ .hardReset cause) ∧ (∀ p, Instr.holdFrame ≠ .hardResetRelease p) :=
  ⟨rfl, nofun, nofun⟩

theorem witness_HardResetEndsAllWork :
    running.held = false ∧ (10 ≤ 10) ∧ (1079 < 1080 ∨ 2970 < 2970) ∧ (1080 < 1080 ∨ 2969 < 2970) ∧ (9 < 10) ∧ 1080 ≤ 1080 ∧ 2970 ≤ 2970 ∧
    (after (.hardReset (.resetLow 10)) running).held = true ∧ (after (.hardReset (.resetLow 9)) running).held = false ∧
    (after (.hardReset (.supplies 1079 2970)) running).held = true ∧ (after (.hardReset (.supplies 1080 2969)) running).held = true ∧
    (after (.hardReset (.supplies 1080 2970)) running).held = false := by decide +kernel

/-- The pins at their lowest good values. -/
def goodPins : ReleasePins := { resetHigh := true, vddMv := 1080, vddioMv := 2970, supplyGoodUs := 2000 }

theorem witness_ReleaseGivesHardResetValues :
    heldPart.held = true ∧ goodPins.resetHigh = true ∧ 1080 ≤ goodPins.vddMv ∧ 2970 ≤ goodPins.vddioMv ∧ 2000 ≤ goodPins.supplyGoodUs ∧
    (after (.hardResetRelease goodPins) heldPart).held = false ∧
    (after (.hardResetRelease { goodPins with resetHigh := false }) heldPart).held = true ∧
    (after (.hardResetRelease { goodPins with vddMv := 1079 }) heldPart).held = true ∧
    (after (.hardResetRelease { goodPins with vddioMv := 2969 }) heldPart).held = true ∧
    (after (.hardResetRelease { goodPins with supplyGoodUs := 1999 }) heldPart).held = true ∧
    running.held = false ∧ (after (.hardResetRelease goodPins) running).mode = .running := by decide +kernel

theorem witness_ReceiversAssembleAndDrop :
    running.held = false ∧ rxOf running .u = .idle ∧ rxOf running .d = .idle ∧ rxOf (receiving [] running) .u ≠ .idle ∧
    rxOf (receiving (List.replicate 71 0) running) .d = .assembling (List.replicate 71 0) ∧ (List.replicate 71 (0 : Byte)).length < 72 ∧
    72 ≤ (List.replicate 72 (0 : Byte)).length ∧ rxOf { running with uRx := .oversize } .u = .oversize ∧
    judge .u [0x07, 0x91, 0x18] = .checkError ∧ judge .d [0x07, 0x91, 0x18] = .checkError ∧
    outcome .u (.assembling [0x07, 0x91, 0x17]) .close = some .malformed ∧ outcome .d .oversize .close = some .malformed ∧
    outcome .u (.assembling []) .start = some .malformed ∧ outcome .d (.assembling []) .start = some .malformed := by decide +kernel

/-- The bytes of a frame with a right check. -/
def withCheck (body : List Byte) : List Byte := body ++ halfBytes (frameCheck body)

/-- Bodies that port U accepts but for one field, or the length, one past its range. -/
def outOfOrderAtU : List (List Byte) :=
  [[1, 16, 0, 0, 1, 0, 0], [1, 0, 0, 0, 0], [1, 0, 0, 0, 17] ++ List.replicate 34 0, [1, 0, 0, 0, 2, 0, 0, 0], [1, 0, 0, 0, 1, 0, 0, 0],
   [3, 0, 0, 0, 0, 65] ++ List.replicate 65 0, [3, 0, 0, 0, 0, 1], [3, 0, 0, 0, 0], [4, 0, 0, 0, 17] ++ List.replicate 17 0, [4, 0, 0, 0, 0, 0]]

/-- The same for port D. -/
def outOfOrderAtD : List (List Byte) :=
  [[2, 32, 0, 1, 0], [2, 0, 0, 1, 65] ++ List.replicate 65 0, [2, 0, 0, 1, 2, 0], [5, 0, 0], [5, 32, 0], [5, 1], [6, 0], [6, 1, 1], [6], [7, 0]]

/-- The kind clause at kinds 0 and 8, at port U with kind 02h and at port D with kind 01h; the last clause at every row above, at a Hold
of duration 0 and at one of duration 1. -/
theorem witness_FrameJudgementInOrder :
    EndSymbol.invalid ≠ .close ∧ ([0, 0] : List Byte).length < 3 ∧ frameCheck [0x07] ≠ halfOf 0x91 0x18 ∧
    frameCheck [0x00] = halfOf 0xE1 0xF0 ∧ frameCheck [0x08] = halfOf 0x60 0xF8 ∧ (7 < (0x08 : Byte).toNat) ∧
    frameCheck [0x02] = halfOf 0xC1 0xB2 ∧ (0x02 : Byte) ∉ [(0x01 : Byte), 0x03, 0x04] ∧
    frameCheck [0x01] = halfOf 0xF1 0xD1 ∧ (0x01 : Byte) ∉ [(0x02 : Byte), 0x05, 0x06, 0x07] ∧
    (outOfOrderAtU.all fun body => judge .u (withCheck body) == .malformed) = true ∧
    (outOfOrderAtD.all fun body => judge .d (withCheck body) == .malformed) = true ∧
    (∀ duration : Byte, [0x00] = [duration] → ¬ 1 ≤ duration.toNat) ∧
    (∃ duration : Byte, [0x01] = [duration] ∧ 1 ≤ duration.toNat) ∧
    judge .d (withCheck [6, 1]) = .accepted (.link (buildHold 1)) := by
  refine ⟨?_, ?_, ?_, ?_, ?_, ?_, ?_, ?_, ?_, ?_, ?_, ?_, ?_, ⟨1, rfl, by decide⟩, ?_⟩ <;> decide +kernel

/-- One frame of every kind, with its longest contents. -/
theorem witness_FramesAreAcceptedAsSent :
    (Frame.forward (.sample (buildSample 15 255 255 (List.replicate 16 0x8000)))).wellFormedAt .u ∧
    (Frame.forward (.response (buildResponse 30 255 0x35 0x0C (List.replicate 64 255)))).wellFormedAt .u ∧
    (Frame.forward (.notice (buildNotice 30 255 0x23 (List.replicate 16 255)))).wellFormedAt .u ∧
    (Frame.reverse (.request (requestFor 31))).wellFormedAt .d ∧ (Frame.reverse (.enumerate (buildEnum 31 255))).wellFormedAt .d ∧
    (Frame.link (buildHold 255)).wellFormedAt .d ∧ (Frame.link buildRelease).wellFormedAt .d := by decide +kernel

theorem witness_FrameCheckIsTheCyclicCheck :
    judge .d buildRelease.body = .malformed ∧ judge .d [0x07, 0x91, 0x17] = .accepted (.link (.release 0x9117)) ∧
    judge .u fwd.bytes = .accepted (.forward fwd) := by decide +kernel

theorem witness_ForwardFrameIsOfferedToIngress :
    let full : State := receiving fwd.bytes { running with ingress := line 8 }
    let mask (m : BitVec 3) (o : Outstanding) (s : State) : State := { s with notices := { s.notices with mask := m, overrun := o } }
    judge .u fwd.bytes = .accepted (.forward fwd) ∧ (receiving fwd.bytes { running with ingress := line 7 }).ingress.length < 8 ∧
    (receiving fwd.bytes { running with ingress := line 5 }).flow.upstream = .quiet ∧
    full.held = false ∧ full.uRx = .assembling fwd.bytes ∧ full.ingress.length = 8 ∧
    (mask 5 .idle full).notices.mask.getLsbD 1 = false ∧
    ((mask 2 .pending full).notices.mask.getLsbD 1 = true ∧ (mask 2 .pending full).notices.overrun = .pending) ∧
    ((mask 2 .queued full).notices.mask.getLsbD 1 = true ∧ (mask 2 .queued full).notices.overrun = .queued) ∧
    ((crowded full).notices.mask.getLsbD 1 = true ∧ (crowded full).notices.overrun = .idle ∧ (crowded full).localQ.length = 4) ∧
    (full.notices.mask.getLsbD 1 = true ∧ full.notices.overrun = .idle ∧ Roomy { full with localQ := answers 3 }) := by decide +kernel

theorem witness_ReverseFramesAreRouted :
    let accepts (target : Fin 32) : Prop :=
      judge .d (ReverseFrame.request (requestFor target)).bytes = .accepted (.reverse (.request (requestFor target)))
    let enum := ReverseFrame.enumerate (buildEnum 31 0x70)
    running.held = false ∧ accepts 0 ∧ accepts 31 ∧ accepts 4 ∧ ({ running with address := 4 } : State).address.val = 4 ∧ accepts 5 ∧
    judge .d enum.bytes = .accepted (.reverse enum) ∧ (receiving enum.bytes running).dRx = .assembling enum.bytes ∧
    running.address = 0 ∧ ({ running with address := 30 } : State).address ≠ 0 := by decide +kernel

theorem witness_HoldAndReleaseActOnDTransmitter :
    let heldTx : State := { running with dTx := { running.dTx with hold := .held 255 } }
    running.held = false ∧ (receiving [0x06, 0x40, 0xFF, 0x6D] heldTx).dRx = .assembling [0x06, 0x40, 0xFF, 0x6D] ∧
    judge .d [0x06, 0x40, 0xFF, 0x6D] = .accepted (.link (.hold 0x40 0xFF6D)) ∧
    judge .d [0x07, 0x91, 0x17] = .accepted (.link (.release 0x9117)) ∧ heldTx.dTx.hold = .held 255 ∧ running.dTx.hold = .free := by
  decide +kernel

/-- A part whose upstream hold is ASSERTED. -/
def asserted (s : State) : State := { s with flow := { s.flow with upstream := .asserted, refresh := some 32 } }

theorem witness_UpstreamHoldFollowsOccupancy :
    running.held = false ∧ judge .u fwd.bytes = .accepted (.forward fwd) ∧
    (receiving fwd.bytes { running with ingress := line 5 }).uRx = .assembling fwd.bytes ∧ (line 5).length < 8 ∧ (line 5).length + 1 = 6 ∧
    running.flow.upstream = .quiet ∧ running.intake = .free ∧
    (asserted { running with ingress := line 3 }).ingress = fwd :: line 2 ∧ (line 2).length = 2 ∧
    (asserted running).flow.upstream = .asserted ∧ (asserted running).flow.refresh = some 32 ∧ running.flow.refresh = none ∧
    (after .intakeSampleFrame (asserted { running with ingress := line 3 })).flow.slot = some buildRelease := by decide +kernel

/-- A PROCESS group is 5; group 0 is BYPASS; group 1 is BLOCK. -/
def modes (s : State) : State :=
  { s with bankA := { bank27 with groups := bank27.groups.set 1 { mode := .block, out := 1, emit := 0 } } }

/-- A frame of a group. -/
def ofGroup (g : Fin 16) : SampleFrame := buildSample g 42 0 [half 1]

theorem witness_IntakeActsByGroupMode :
    let at0 (g : Fin 16) (n : Nat) : State := modes { running with ingress := [.sample (ofGroup g)], egress := line n }
    (at0 0 7).held = false ∧ (at0 0 7).intake = .free ∧ (at0 0 7).ingress = [.sample (ofGroup 0)] ∧
    atTarget (ofGroup 0) (at0 0 7) = false ∧ modeOf (activeBank (at0 0 7)) 0 = .bypass ∧ (at0 0 7).egress.length < 8 ∧
    8 ≤ (at0 0 8).egress.length ∧ State.reset.mode = .booting ∧
    ({ running with intake := .waiting fwd, egress := line 7 } : State).egress.length < 8 ∧
    8 ≤ ({ running with intake := .waiting fwd, egress := line 8 } : State).egress.length ∧ (at0 1 0).mode = .running ∧
    atTarget (ofGroup 1) (at0 1 0) = false ∧ modeOf (activeBank (at0 1 0)) 1 = .block ∧ modeOf (activeBank (at0 5 0)) 5 = .process := by
  decide +kernel

/-- With a place in the forward egress queue and without one. -/
theorem witness_TargetFrameSwapsBeforeItIsHandled :
    let s (g : Fin 16) (n : Nat) : State :=
      let r := modes running
      armed (.atFrame g 42) true { r with bankB := r.bankA, ingress := [.sample (ofGroup g)], egress := line n }
    ∀ g ∈ [(0 : Fin 16), 1, 5], ∀ n ∈ [7, 8],
      (s g n).held = false ∧ (s g n).intake = .free ∧ (s g n).ingress = .sample (ofGroup g) :: [] ∧ (s g n).mode = .running ∧
      atTarget (ofGroup g) (s g n) = true ∧ (s g n).commit = some (commit31 (.atFrame g 42) true) ∧
      (commit31 (.atFrame g 42) true).origin = .request ∧ (commit31 (.atFrame g 42) true).tag = some 0x31 ∧
      (s g n).egress.length = n ∧ modeOf (shadowBank (s g n)) g = if g = 0 then .bypass else if g = 1 then .block else .process := by
  decide +kernel

/-- Distances 2 and 255 of a gap; no commit ARMED, and one in mode AT. -/
theorem witness_FrameIsCorrectedAndDelivered :
    let s (tracker : Tracker) (n : Nat) : State := { correcting frame1 tracker with egress := line n }
    let a : State := armed (.atFrame 5 42) true (s .unsynced 7)
    (s .unsynced 7).held = false ∧ (s .unsynced 7).stage = .bound frame1 .a ∧ (s .unsynced 7).shadow ≠ .armed ∧
    (a.stage = .bound frame1 .a ∧ a.commit = some (commit31 (.atFrame 5 42) true) ∧ (commit31 (.atFrame 5 42) true).mode ≠ .now) ∧
    (s .unsynced 7).trackers[frame1.group] = .unsynced ∧ (s (.synced 41) 7).trackers[frame1.group] = .synced 41 ∧
    frame1.sequence = 41 + 1 ∧ (s .unsynced 7).egress.length < 8 ∧ 8 ≤ (s .unsynced 8).egress.length ∧
    (s (.synced 40) 7).trackers[frame1.group] = .synced 40 ∧ 2 ≤ (frame1.sequence - 40).toNat ∧
    (s (.synced 43) 8).trackers[frame1.group] = .synced 43 ∧ (frame1.sequence - 43).toNat = 255 := by decide +kernel

theorem witness_DuplicateIsDiscardedAndReported :
    let s := correcting frame1 (.synced 42)
    let masked (m : BitVec 3) (o : Outstanding) : State := { running with notices := { running.notices with mask := m, sequence := o } }
    s.held = false ∧ s.stage = .bound frame1 .a ∧ s.shadow ≠ .armed ∧ s.trackers[frame1.group] = .synced frame1.sequence ∧
    ((armed (.atFrame 5 42) true s).commit = some (commit31 (.atFrame 5 42) true) ∧ (commit31 (.atFrame 5 42) true).mode ≠ .now) ∧
    (masked 3 .idle).notices.mask.getLsbD 2 = false ∧
    ((masked 4 .queued).notices.mask.getLsbD 2 = true ∧ (masked 4 .queued).notices.sequence ≠ .idle) ∧
    (running.notices.mask.getLsbD 2 = true ∧ running.notices.sequence = .idle ∧ 4 ≤ (crowded running).localQ.length ∧
      Roomy { running with localQ := answers 3 }) := by decide +kernel

/-- A stalled frame with no commit ARMED, under one in mode AT and under one in mode NOW; under one in mode NOW also a frame in order,
one after a gap and a duplicate. -/
theorem witness_StalledOutputTakesFreePlace :
    let s (n : Nat) : State := { running27 with intake := .correcting, stage := .stalled frame1 .a, egress := line n }
    let a (t : State) : State := armed .now true { t with egress := line 7 }
    ((s 7).held = false ∧ (s 7).stage = .stalled frame1 .a ∧ (s 7).egress.length < 8 ∧ (s 7).shadow ≠ .armed ∧
      8 ≤ (s 8).egress.length) ∧
    ((armed (.atFrame 5 42) true (s 7)).shadow = .armed ∧ (commit31 (.atFrame 5 42) true).mode ≠ .now) ∧
    ((a (s 7)).held = false ∧ (a (s 7)).shadow = .armed ∧ (a (s 7)).commit = some (commit31 .now true) ∧
      (commit31 .now true).mode = .now ∧ (commit31 .now true).origin = .request ∧ (commit31 .now true).tag = some 0x31 ∧
      (a (s 7)).stage = .stalled frame1 .a ∧ (a (s 7)).egress.length < 8) ∧
    (∀ tracker ∈ [Tracker.unsynced, .synced 40, .synced 41, .synced 42, .synced 43],
      (a (correcting frame1 tracker)).stage = .bound frame1 .a ∧ (a (correcting frame1 tracker)).trackers[frame1.group] = tracker ∧
        (after .correctionDone (a (correcting frame1 tracker))).active = .b) ∧
    frame1.sequence = 41 + 1 ∧ 2 ≤ (frame1.sequence - 40).toNat ∧ frame1.sequence = 42 ∧ 2 ≤ (frame1.sequence - 43).toNat := by
  decide +kernel

/-- For the slot counters: two slots of the frame's group, a slot of another group and an empty slot. -/
theorem witness_OutputFrameCarriesSlotValues :
    let slots := groupSlots bank27 frame1.group
    let other : Bank := { bank27 with slots := bank27.slots.set 63 (entry 15 0 .pass 0 0) }
    slots.map (fun se => se.2.out) = [1, 0] ∧ (∀ se ∈ slots, ∀ te ∈ slots, te.2.out.val = se.2.out.val → te = se) ∧
    (bank27.groups[frame1.group]).emit = 2 ∧ (frame27 45 0 [-1499, 12, 300]).samples.length ≤ 3 ∧
    frame1.samples[3]? = some (half 777) ∧ frame1.samples[0]? = some (half 2000) ∧
    bank27.curves[2] = some { start := 10, count := 3, policy := .clamp } ∧
    (other.slots[3] = entry 5 0 .correct 2 1 ∧ frame1.group = 5 ∧ other.slots[63] = entry 15 0 .pass 0 0 ∧ (15 : Fin 16) ≠ frame1.group ∧
      other.slots[62] = none) ∧
    (let counts : Vector SlotCounters 64 := Vector.replicate 64 { sat := 7, range := 0xFFFF }
     let counted := countedSlots other (frame27 44 0 [9000, 0, 0, -5]) (counts.set 3 { sat := 7, range := 0xFFFE })
     counted[3] = { sat := 7, range := 0xFFFF } ∧ counted[63] = { sat := 7, range := 0xFFFF } ∧
       (countedSlots other (frame27 44 0 [9000, 0, 0, -5]) counts)[3] = { sat := 7, range := 0xFFFF }) := by decide +kernel

theorem witness_CurveInterpolatesInRange :
    2 ≤ curve27.length ∧ ordered curve27 = true ∧ curve27.head? = some { x := half (-2000), y := half (-1000) } ∧
    curve27.getLast? = some { x := half 4000, y := half 3101 } ∧ (half (-2000)).toInt ≤ (half 2000).toInt ∧
    (half 2000).toInt ≤ (half 4000).toInt ∧ curve27[1]? = some { x := half 0, y := half 100 } := by decide +kernel

theorem witness_CurveAppliesEndPolicy :
    2 ≤ curve28.length ∧ ordered curve28 = true ∧
    (curve28.head? = some { x := half 0, y := half 0 } ∧ (half (-1)).toInt < (half 0).toInt ∧
      curve28[0]? = some { x := half 0, y := half 0 } ∧ curve28[1]? = some { x := half 10, y := half 25 }) ∧
    (curve28.getLast? = some { x := half 20, y := half 32000 } ∧ (half 20).toInt < (half 30).toInt ∧
      curve28[curve28.length - 2]? = some { x := half 10, y := half 25 } ∧
      curve28[curve28.length - 1]? = some { x := half 20, y := half 32000 }) := by decide +kernel

theorem witness_ForwardOrderIsKept :
    let s := correcting frame1 .unsynced
    s.held = false ∧ StageFollowsIntake s ∧ (∀ cause, Instr.correctionDone ≠ .hardReset cause) ∧
    exec .correctionDone s = .next (after .correctionDone s) ∧ forwardLine s = [fwd] ∧
    forwardLine (after .correctionDone s) = [.sample (correctedFrame bank27 frame1 false)] :=
  ⟨rfl, by decide +kernel, nofun, exec_eq_after _ _ (by decide +kernel), rfl, by decide +kernel⟩

theorem witness_DArbiterAlternates :
    let s (source : Source) (n m : Nat) : State :=
      { running with egress := line n, localQ := answers m, dTx := { running.dTx with lastServed := source } }
    let unit (code : Byte) (m : BitVec 3) : NoticeUnit :=
      { running.notices with mask := m, bootDone := .queued, overrun := .queued, sequence := .queued, overrunSet := code == 2 }
    ((s .ofLocal 1 1).held = false ∧ (s .ofLocal 1 1).dTx.send = .ready ∧ (s .ofLocal 1 1).dTx.hold = .free ∧
      (s .ofLocal 1 1).egress = [fwd] ∧ (s .ofLocal 1 1).dTx.lastServed = .ofLocal ∧ (s .forward 1 0).localQ = []) ∧
    ((s .forward 1 1).localQ = [.response someResponse] ∧ (s .forward 1 1).dTx.lastServed = .forward ∧ (s .ofLocal 0 1).egress = []) ∧
    ({ running with dTx := { running.dTx with hold := .held 1 } } : State).dTx.hold = .held 1 ∧
    ({ s .ofLocal 1 1 with dTx := { running.dTx with send := .sending (.forward fwd) } } : State).dTx.send = .sending (.forward fwd) ∧
    ((s .ofLocal 0 0).egress = [] ∧ (s .ofLocal 0 0).localQ = []) ∧
    (0x10 ≤ (buildNotice 0 1 0x10 []).code.toNat) ∧ (buildNotice 0 0 0x01 []).code = 0x01 ∧ (unit 1 7).bootDone = .queued ∧
    (buildNotice 0 0 0x02 []).code = 0x02 ∧ (unit 2 7).overrun = .queued ∧ ((unit 2 7).mask.getLsbD 1 = true ∧ (unit 2 7).overrunSet = true) ∧
    (unit 2 5).mask.getLsbD 1 = false ∧ (buildNotice 0 0 0x03 []).code = 0x03 ∧ (unit 3 4).sequence = .queued := by decide +kernel

theorem witness_TransmissionsStartAndEnd :
    let d (f : LocalFrame) : State := { running with dTx := { running.dTx with send := .sending (.ofLocal f), lane := .frame } }
    let u : State := { running with flow := { running.flow with slot := some buildRelease }, reverseQ := [.request (requestFor 31)] }
    running.held = false ∧ (d (.response someResponse)).dTx.send = .sending (.ofLocal (.response someResponse)) ∧
    isRestartResponse (.ofLocal (.response someResponse)) = false ∧ running.engine = .idle ∧
    ({ running with uTx := { send := .sending (.link buildRelease), lane := .frame } } : State).uTx.send = .sending (.link buildRelease) ∧
    (running.dTx.send = .ready ∧ running.uTx.send = .ready) ∧ u.flow.slot = some buildRelease ∧ running.flow.slot = none ∧
    ({ u with flow := running.flow } : State).reverseQ = .request (requestFor 31) :: [] ∧ running.reverseQ = [] := by decide +kernel

/-- The OK response to a RESTART with tag 33h. -/
def restartAnswer : ResponseFrame := buildResponse 0 0x33 0x04 0x00 []

/-- A part that sends the OK response to a RESTART. -/
def restarting (form : RestartForm) : State :=
  { running with engine := .restarting form, dTx := { running.dTx with send := .sending (.ofLocal (.response restartAnswer)), lane := .frame } }

theorem witness_RestartAnswersThenBegins :
    (Takes 0x04 (ask 0x04 [0x00]) [] (asked 0x04 [0x00] running) ∧ running.mode = .running ∧
      Takes 0x04 (ask 0x04 [0x01]) [] (asked 0x04 [0x01] (crowded running)) ∧ Roomy running ∧ ¬ Roomy (crowded running)) ∧
    (∀ form ∈ [RestartForm.keep, .reload],
      (restarting form).held = false ∧ (restarting form).engine = .restarting form ∧
      (restarting form).dTx.send = .sending (.ofLocal (.response restartAnswer)) ∧
      isRestartResponse (.ofLocal (.response restartAnswer)) = true) ∧
    (after .dFrameSent (restarting .reload)).mode = .booting ∧ (after .dFrameSent (restarting .keep)).mode = .running := by decide +kernel

theorem witness_CommitExpiresOrIsCancelled :
    let s (timer : Bool) : State := armed .now timer { running with localQ := answers 3 }
    let c : State := asked 0x24 [] (armed .now true { running with localQ := answers 2 })
    ((s true).held = false ∧ (s true).shadow = .armed ∧ (s true).commit = some (commit31 .now true) ∧
      (commit31 .now true).timer = true ∧ (commit31 .now true).origin = .request ∧ (commit31 .now true).tag = some 0x31 ∧
      (s true).localQ.length < 4 ∧ Quiet (s true) ∧ (commit31 .now false).timer = false) ∧
    (Takes 0x24 (ask 0x24 []) [] c ∧ c.mode = .running ∧ (ask 0x24 []).params = [] ∧ c.shadow = .armed ∧
      c.commit = some (commit31 .now true) ∧ c.localQ.length < 3 ∧ Quiet c) := by decide +kernel

theorem witness_EnumerateGivesAddress :
    (enumerated 1 running).held = false ∧ (enumerated 1 running).engine = .idle ∧
    (enumerated 1 running).requestQ = .enumerate (buildEnum 1 0x70) :: [] ∧ running.address = 0 ∧
    (1 ≤ (1 : Fin 31).val ∧ (buildEnum 1 0x70).next.val = (1 : Fin 31).val ∧ (2 : Fin 32).val = (1 : Fin 31).val + 1) ∧
    (1 ≤ (30 : Fin 31).val ∧ (buildEnum 30 0x70).next.val = (30 : Fin 31).val ∧ (31 : Fin 32).val = (30 : Fin 31).val + 1) ∧
    (buildEnum 31 0x70).next.val = 31 ∧ ({ running with address := 30 } : State).address ≠ 0 := by decide +kernel

theorem witness_EngineHoldsWhatFindsNoPlace :
    let h : Held := { response := some someResponse, successor := some (buildEnum 2 0x70), restart := none }
    let s (n m : Nat) : State :=
      { running with engine := .holding h, localQ := answers n, reverseQ := List.replicate m (.enumerate (buildEnum 1 0)) }
    (s 3 7).held = false ∧ (s 3 7).engine = .holding h ∧ h.response = some someResponse ∧ Roomy (s 3 7) ∧
    h.successor = some (buildEnum 2 0x70) ∧ h.restart = none ∧ (s 3 7).reverseQ.length < 8 ∧ 4 ≤ (s 4 8).localQ.length ∧
    8 ≤ (s 4 8).reverseQ.length ∧
    ({ s 3 7 with notices := { running.notices with sequence := .pending } } : State).notices.firstPending ≠ none ∧ (s 3 7).engine ≠ .idle ∧ (restarting .keep).engine ≠ .idle ∧ commandOf 0x02 = some .readStatus := by
  decide +kernel

theorem witness_RefusedRequestChangesOnlyItsAnswer :
    let s (n : Nat) : State := asked 0x03 [0, 0] { running with localQ := answers n }
    let r : ResponseFrame := buildResponse 0 0x33 0x03 0x06 []
    (Takes 0x03 (ask 0x03 [0, 0]) [] (s 3) ∧ commandOf 0x03 = some .setLink ∧ runs .setLink (s 3) = true ∧ r.result ≠ 0x00 ∧
      r.result ≠ 0x01 ∧ Roomy (s 3) ∧ (after .setLink (s 3)).localQ = (s 3).localQ ++ [.response r]) ∧
    (Takes 0x03 (ask 0x03 [0, 0]) [] (s 4) ∧ runs .setLink (s 4) = true ∧
      (after .setLink (s 4)).engine = .holding { response := some r, successor := none, restart := none }) := by decide +kernel

theorem witness_CodeLengthAndModeAreJudgedFirst :
    commandOf (ask 0x17 []).code = none ∧ Takes 0x17 (ask 0x17 []) [] (asked 0x17 [] running) ∧
    commandOf 0x04 = some .restart ∧ ¬ acceptedLength 0x04 0 ∧ ¬ acceptedLength 0x04 2 ∧ acceptedLength 0x04 1 ∧
    Takes 0x04 (ask 0x04 [0]) [] (asked 0x04 [0] State.reset) ∧ State.reset.mode = .booting ∧
    (0x04 : Byte) ∉ [(0x01 : Byte), 0x02, 0x14, 0x16, 0x30] ∧ acceptedLength 0x14 [(0x01 : Byte), 0, 0, 1].length ∧
    (ask 0x14 [0x01, 0, 0, 1]).params.head? ≠ some 0x00 :=
  ⟨by decide, by decide +kernel, by decide, by simp [acceptedLength], by simp [acceptedLength], by simp [acceptedLength], by decide +kernel,
    rfl, by decide, by simp [acceptedLength], by decide⟩

/-- Each row: a code, and parameters with one field one past its range. -/
def outOfRange : List (Byte × List Byte) :=
  [(0x03, [0, 7]), (0x03, [1, 8]), (0x04, [2]), (0x10, [16, 0, 0]), (0x10, [0, 3, 0]), (0x10, [0, 0, 16]),
   (0x11, [64, 0, 0, 0, 0, 0, 0]), (0x11, [0, 2, 0, 0, 0, 0, 0]), (0x11, [0, 1, 16, 0, 0, 0, 0]), (0x11, [0, 1, 0, 16, 0, 0, 0]),
   (0x11, [0, 1, 0, 0, 2, 0, 0]), (0x11, [0, 1, 0, 0, 0, 32, 0]), (0x11, [0, 1, 0, 0, 0, 0, 16]), (0x12, [32, 0, 0, 0, 0]),
   (0x12, [0, 2, 0, 2, 0]), (0x12, [0, 1, 0, 1, 0]), (0x12, [0, 1, 0, 17, 0]), (0x12, [0, 1, 0, 2, 3]), (0x12, [0, 1, 255, 2, 0]),
   (0x13, [0xFF, 0, 0, 0, 0, 0, 0, 0, 0]), (0x14, [2, 0, 0, 1]), (0x14, [0, 0, 0, 0]), (0x14, [0, 1, 0, 11]), (0x14, [0, 2, 31, 2]),
   (0x14, [0, 4, 0, 1]), (0x15, [2, 0, 1, 0]), (0x15, [0, 0, 1, 2]), (0x15, [0, 0, 0, 0]), (0x15, [0, 0, 17, 0]), (0x15, [0, 63, 2, 0]),
   (0x15, [1, 0, 11, 0]), (0x15, [1, 15, 2, 0]), (0x16, [2, 0, 0, 0]), (0x16, [0, 32, 0, 0]),
   (0x16, 2 :: 0 :: List.replicate 32 0), (0x16, 1 :: 32 :: List.replicate 32 0), (0x23, [2, 0, 0, 0, 0]),
   (0x23, [1, 16, 0, 0, 0]), (0x31, 2 :: 0 :: noLabel), (0x31, 0 :: 4 :: noLabel), (0x32, [4]), (0x33, [4]), (0x34, [4, 0]),
   (0x34, [0xFE, 0]), (0x34, [0xFF, 2]), (0x35, [16])]

/-- Every row meets the hypotheses of its clause, and is answered BAD_PARAM. -/
theorem witness_ParametersOutOfRangeAreRefused :
    running.mode = .running ∧
    ∀ row ∈ outOfRange, Takes row.1 (ask row.1 row.2) [] (asked row.1 row.2 running) ∧
      (commandOf row.1).any (fun c => lastResult (after c (asked row.1 row.2 running)) == some 0x06) = true := by decide +kernel

theorem witness_RecordsAreReadInEveryState :
    ∀ code ∈ [(0x01 : Byte), 0x02, 0x30], (ask code []).params = [] ∧ Takes code (ask code []) [] (asked code [] State.reset) ∧
      Takes code (ask code []) [] (asked code [] (crowded running)) := by decide +kernel

theorem witness_SetLinkAndReleaseAddressAct :
    Takes 0x03 (ask 0x03 [255, 7]) [] (asked 0x03 [255, 7] running) ∧ (asked 0x03 [255, 7] running).mode = .running ∧
    (255 : Byte) ≠ 0 ∧ (7 : Byte).toNat < 8 ∧ (1 : Byte) ≠ 0 ∧ (0 : Byte).toNat < 8 ∧ Takes 0x05 (ask 0x05 []) [] (asked 0x05 [] running) := by
  decide +kernel

/-- Parameters of each table write, with every field at its last value. -/
def lastWrites : List (Byte × List Byte) :=
  [(0x10, [15, 2, 15]), (0x11, [63, 1, 15, 15, 1, 31, 15]), (0x11, [63, 0, 255, 255, 255, 255, 255]), (0x12, [31, 1, 240, 16, 2]),
   (0x12, [31, 0, 255, 255, 255]), (0x13, 241 :: List.replicate 60 0x80), (0x21, [])]

theorem witness_TableWritesChangeTheShadow :
    running.mode = .running ∧ running.shadow = .editable ∧
    (byteOf (15 : Fin 16) = 15 ∧ GroupMode.block.code = 2 ∧ byteOf (63 : Fin 64) = 63 ∧ Action.pass.code = 1 ∧ byteOf (31 : Fin 32) = 31) ∧
    ({ start := 240, count := 16, policy := .mark } : CurveDef).wellFormed ∧
    (let points : List Point := List.replicate 15 { x := 0x8080, y := 0x8080 }
     points.length ≤ 15 ∧ (241 : Fin 256).val + points.length ≤ 256 ∧
       byteOf (241 : Fin 256) :: points.flatMap pointBytes = 241 :: List.replicate 60 0x80) ∧
    ∀ row ∈ lastWrites, Takes row.1 (ask row.1 row.2) [] (asked row.1 row.2 running) ∧
      (commandOf row.1).any (fun c => lastResult (after c (asked row.1 row.2 running)) == some 0x00) = true := by decide +kernel

theorem bank27_inService : InService bank27 := by decide +kernel

/-- A bank that passes, and one of which the check of curve 1 fails first. -/
theorem witness_ValidBanksFillTheirGroups :
    let faulty := bank19 (1500, 2100) .bypass
    testBank bank27 = none ∧ modeOf bank27 5 = .process ∧ (groupSlots bank27 5).length = 2 ∧
    testBank faulty = some { kind := .curveOrder, index := 1 } ∧ CheckFails faulty { kind := .curveOrder, index := 1 } ∧
    CheckFails faulty { kind := .groupClash, index := 4 } :=
  ⟨bank27_inService.1, by decide +kernel, by decide +kernel, by decide +kernel,
    ⟨1, { start := 2, count := 3, policy := .extend }, rfl, rfl, 1, by decide, by decide, by decide +kernel⟩,
    ⟨4, 0, rfl, by decide, by decide +kernel, by decide +kernel, by decide +kernel⟩⟩

/-- Reads of each table and counter set, at its last entries. -/
def lastReads : List (Byte × List Byte) :=
  [(0x14, [0, 0, 0, 16]), (0x14, [1, 1, 54, 10]), (0x14, [0, 2, 16, 16]), (0x14, [1, 3, 240, 16]), (0x15, [0, 48, 16, 0]), (0x15, [0, 48, 16, 1]),
   (0x15, [1, 6, 10, 0]), (0x15, [1, 6, 10, 1])]

theorem witness_TablesAndCountersAreRead :
    running.mode = .running ∧ running.shadow ≠ .loading ∧ (∀ tag, running.shadow ≠ .copying tag) ∧
    ∀ row ∈ lastReads, Takes row.1 (ask row.1 row.2) [] (asked row.1 row.2 running) ∧
      (commandOf row.1).any (fun c => lastResult (after c (asked row.1 row.2 running)) == some 0x00) = true := by
  refine ⟨rfl, nofun, nofun, ?_⟩
  decide +kernel

theorem witness_EvaluateAnswersPerValue :
    let values : List Half := List.replicate 16 (half 2000)
    let params (role curve : Byte) : List Byte := [role, curve] ++ values.flatMap halfBytes
    values.length ≤ 16 ∧ Takes 0x16 (ask 0x16 (params 0 2)) [] (asked 0x16 (params 0 2) running27) ∧ byteOf (2 : Fin 32) = 2 ∧
    (∃ c, (activeBank running27).curves[2] = some c ∧ ordered (curvePoints (activeBank running27) c) = true) ∧
    Takes 0x16 (ask 0x16 (params 1 31)) [] (asked 0x16 (params 1 31) running27) ∧ running27.mode = .running ∧
    running27.shadow ≠ .loading ∧ (shadowBank running27).curves[31] = none ∧
    lastResult (after .evaluate (asked 0x16 (params 0 2) running27)) = some 0x00 ∧
    lastResult (after .evaluate (asked 0x16 (params 1 31) running27)) = some 0x06 := by
  refine ⟨by decide, by decide +kernel, by decide, ⟨_, rfl, by decide +kernel⟩, ?_⟩
  decide +kernel

/-- Requests directed at the shadow, with their fields at the ends of their ranges. -/
def shadowRequests : List (Byte × List Byte) :=
  [(0x10, [15, 1, 15]), (0x11, [63, 1, 15, 15, 0, 31, 15]), (0x11, [63, 0, 255, 255, 255, 255, 255]), (0x12, [31, 1, 240, 16, 1]),
   (0x12, [31, 0, 255, 255, 255]), (0x13, [255, 0, 0, 0, 0]), (0x13, 241 :: List.replicate 60 0), (0x20, []), (0x21, []), (0x22, []),
   (0x23, [0, 255, 255, 0, 0]), (0x23, [1, 15, 255, 0, 0]), (0x32, [3]), (0x31, 1 :: 3 :: noLabel)]

/-- Reads of the shadow, each at its last entries, and evaluations of 1 and of 16 values. -/
def shadowReads : List (Byte × List Byte) :=
  [(0x14, [1, 0, 15, 1]), (0x14, [1, 0, 0, 16]), (0x14, [1, 1, 54, 10]), (0x14, [1, 2, 16, 16]), (0x14, [1, 3, 240, 16]), (0x14, [1, 3, 255, 1]),
   (0x16, [1, 31, 0, 0]), (0x16, 1 :: 31 :: List.replicate 32 0)]

theorem witness_ShadowInUseAnswersBusy :
    (armed .now true running).shadow ≠ .editable ∧
    (∀ row ∈ shadowRequests, Takes row.1 (ask row.1 row.2) [] (asked row.1 row.2 (armed .now true running)) ∧
      (commandOf row.1).any (fun c => lastResult (after c (asked row.1 row.2 (armed .now true running))) == some 0x02) = true) ∧
    ({ running with shadow := .loading } : State).shadow = .loading ∧ ({ running with shadow := .copying 1 } : State).shadow = .copying 1 ∧
    (∀ row ∈ shadowReads, ∀ shadow ∈ [Shadow.loading, .copying 1],
      Takes row.1 (ask row.1 row.2) [] (asked row.1 row.2 { running with shadow := shadow }) ∧
      (commandOf row.1).any (fun c => lastResult (after c (asked row.1 row.2 { running with shadow := shadow })) == some 0x02) = true) ∧
    (∀ tag, running.shadow ≠ .validating .commit tag) ∧ running.shadow ≠ .armed ∧ Takes 0x24 (ask 0x24 []) [] (asked 0x24 [] running) :=
  ⟨by decide, by decide +kernel, rfl, rfl, by decide +kernel, nofun, nofun, by decide +kernel⟩

theorem witness_BankOperationsStart :
    running.mode = .running ∧ running.shadow = .editable ∧
    ∀ row ∈ [((0x20 : Byte), ([] : List Byte)), (0x22, []), (0x23, [0, 255, 255, 255, 255]), (0x23, [1, 15, 255, 0, 0])],
      Takes row.1 (ask row.1 row.2) [] (asked row.1 row.2 running) ∧
      (commandOf row.1).any (fun c => lastResult (after c (asked row.1 row.2 running)) == some 0x01) = true := by decide +kernel

/-- A notice that finds a place, one that finds the local queue full, and one that finds its kind pending. -/
theorem witness_CopyAndValidateComplete :
    let copying (n : Nat) : State := { running with shadow := .copying 0x11, localQ := answers n }
    let n : CompletionNotice := { tag := 0x10, what := .copyDone }
    let waiting : State := { copying 4 with
      notices := { running.notices with completions := running.notices.completions.set 0 { pending := some n, follower := none } } }
    let testing (b : Bank) : State :=
      { running with shadow := .validating .validate (some 0x12), bankB := b, localQ := answers 3 }
    ((copying 3).held = false ∧ (copying 3).shadow = .copying 0x11 ∧ (copying 3).localQ.length < 4 ∧ Quiet (copying 3) ∧
      4 ≤ (copying 4).localQ.length ∧ ((copying 4).notices.completions[0]).pending = none ∧
      ((copying 4).notices.completions[0]).follower = none ∧
      waiting.shadow = .copying 0x11 ∧ (waiting.notices.completions[0]).pending = some n ∧
      (waiting.notices.completions[0]).follower = none ∧ Completion.copyDone.kind.index = 0) ∧
    (∀ what ∈ [Completion.directoryDone .ok DirSetting.none, .eraseDone .fault 3],
      ((copying 4).notices.completions[what.kind.index]).pending = none ∧
        ((copying 4).notices.completions[what.kind.index]).follower = none) ∧
    ((testing bank27).shadow = .validating .validate (some 0x12) ∧ (testing bank27).localQ.length < 4 ∧ Quiet (testing bank27) ∧
      testBank (shadowBank (testing bank27)) = none ∧
      testBank (shadowBank (testing (bank19 (1500, 2100) .bypass))) = some { kind := .curveOrder, index := 1 }) := by decide +kernel

theorem witness_CommitTestCompletes :
    let s (b : Bank) (mode : CommitMode) : State :=
      { running with
        shadow := .validating .commit (some 0x31), commit := some (commit31 mode false), bankB := b, localQ := answers 3 }
    (s bank27 .now).held = false ∧ (s bank27 .now).shadow = .validating .commit (some 0x31) ∧
    (s bank27 .now).commit = some (commit31 .now false) ∧ (commit31 .now false).origin = .request ∧
    (commit31 .now false).tag = some 0x31 ∧ (s bank27 .now).localQ.length < 4 ∧ Quiet (s bank27 .now) ∧
    testBank (shadowBank (s (bank19 (1500, 2100) .bypass) .now)) = some { kind := .curveOrder, index := 1 } ∧
    testBank (shadowBank (s bank27 .now)) = none ∧ (commit31 (.atFrame 5 42) false).mode ≠ .now ∧ (s bank27 .now).stage = .idle ∧
    ({ s bank27 .now with stage := .bound frame1 .a } : State).stage ≠ .idle := by decide +kernel

/-- The store requests that running911 accepts; the last two write the directory. -/
def storeRequests : List (Byte × List Byte) :=
  [(0x31, 0 :: 3 :: noLabel), (0x31, 1 :: 2 :: noLabel), (0x32, [1]), (0x33, [3]), (0x34, [3, 1]), (0x34, [0xFF, 0]), (0x35, [15])]

theorem witness_StoreOperationsStart :
    running911.mode = .running ∧ running911.store.op = none ∧ running911.shadow = .editable ∧
    running911.store.view.setting.mask.getLsbD 3 = false ∧ running911.store.table[1] = .valid (info 9) ∧
    ((∀ i : Fin 4, (generationOf running911.store.table[i]).all (fun g => decide (g.toNat ≤ 9)) = true) ∧
      generationOf running911.store.table[1] = some 9 ∧ 9 < 0xFFFFFFFF) ∧
    (∀ i : Fin 4, generationOf running.store.table[i] = none) ∧ (Vector.replicate 8 (0 : Byte)).toList = noLabel ∧
    (bootByte (some 3) = 3 ∧ bootByte none = 0xFF ∧ boolByte true = 1 ∧ (15 : BitVec 4).setWidth 8 = (15 : Byte)) ∧
    ∀ row ∈ storeRequests, Takes row.1 (ask row.1 row.2) [] (asked row.1 row.2 running911) ∧
      (commandOf row.1).any (fun c => lastResult (after c (asked row.1 row.2 running911)) == some 0x01) = true := by decide +kernel

/-- The part of running911 with one more thing in its slot table. -/
def withEntry (i : Fin 4) (e : SlotEntry) : State :=
  { running911 with store := { running911.store with table := running911.store.table.set i e } }

theorem witness_StoreConditionsRefuse :
    let busy : State := { running911 with store := { running911.store with op := some (.erase 1 3) } }
    (∀ row ∈ storeRequests, Takes row.1 (ask row.1 row.2) [] (asked row.1 row.2 busy) ∧
      (commandOf row.1).any (fun c => lastResult (after c (asked row.1 row.2 busy)) == some 0x02) = true) ∧
    busy.mode = .running ∧ busy.store.op ≠ none ∧ running911.store.op = none ∧ running911.shadow = .editable ∧ noLabel.length = 8 ∧
    running911.store.view.setting.mask.getLsbD 0 = true ∧ running911.store.view.setting.mask.getLsbD 3 = false ∧
    (∀ source ∈ [(0 : Byte), 1], lastResult (after .storeSave (asked 0x31 (source :: 0 :: noLabel) running911)) = some 0x07) ∧
    generationOf (withEntry 1 (.damaged (info 0xFFFFFFFF))).store.table[1] = some 0xFFFFFFFF ∧
    running911.store.table[2] = .empty ∧ running911.store.table[3] = .incomplete ∧
    (withEntry 1 (.damaged (info 9))).store.table[1] = .damaged (info 9) ∧
    (∀ source ∈ [(0 : Byte), 1], ∀ slot ∈ [(1 : Byte), 3],
      lastResult (after .storeSave (asked 0x31 (source :: slot :: noLabel) (withEntry 1 (.damaged (info 0xFFFFFFFF))))) = some 0x0A) := by
  decide +kernel

/-- A part whose store has an operation in progress and a body in its buffer, with one place left in the local queue. -/
def working (op : StoreOp) (s : State) : State :=
  { s with store := { s.store with op := some op, buffer := some [1, 2, 3] }, localQ := answers 3 }

theorem witness_SaveAndEraseComplete :
    let s := working (.save 0x42 3 10 (Vector.replicate 8 0)) running911
    let e := working (.erase 0x47 1) running911
    (s.held = false ∧ s.store.op = some (.save 0x42 3 10 (Vector.replicate 8 0)) ∧ s.store.buffer = some [1, 2, 3] ∧ s.localQ.length < 4 ∧
      Quiet s) ∧
    (e.held = false ∧ e.store.op = some (.erase 0x47 1) ∧ e.localQ.length < 4 ∧ Quiet e) := by decide +kernel

/-- A part that loads from slot 1 a body that carries the given CRC. -/
def loading (tag : Option Byte) (crc : Word) (body : List Byte) : State :=
  let s := working (.load tag 1) running911
  { s with shadow := .loading, nv := { s.nv with slots := s.nv.slots.set 1 { header := .valid (info 9) crc, body := some body } } }

/-- A bank whose defined curves all have their ranges. -/
theorem wellFormed_of_all (b : Bank) (h : (∀ i : Fin 32, (b.curves[i]).all (fun c => decide c.wellFormed) = true)) : b.wellFormed := by
  intro i c hc
  have := h i
  rw [hc] at this
  simpa using this

theorem bank_empty_wellFormed : Bank.empty.wellFormed := wellFormed_of_all _ (by decide +kernel)

theorem bank27_wellFormed : bank27.wellFormed := wellFormed_of_all _ (by decide +kernel)

theorem running_quiet : Quiet running := by decide +kernel

/-- What holds of a part that loads, whatever the body and its CRC. -/
theorem loading_meets (tag : Option Byte) (crc : Word) (body : List Byte) :
    let s := loading tag crc body
    s.held = false ∧ s.store.op = some (.load tag 1) ∧ s.nv.slots[1] = { header := .valid (info 9) crc, body := some body } ∧
      s.store.table[1] = .valid (info 9) ∧ s.localQ.length < 4 ∧ Quiet s :=
  ⟨rfl, rfl, Vector.getElem_set_self _, rfl, (by decide : 3 < 4), running_quiet⟩

/-- Every body and CRC, so a body that matches, and one that does not. -/
theorem witness_LoadCompletes :
    (∀ (crc : Word) (body : List Byte),
      let s := loading (some 0x44) crc body
      s.held = false ∧ s.store.op = some (.load (some 0x44) 1) ∧ s.nv.slots[1] = { header := .valid (info 9) crc, body := some body } ∧
        s.store.table[1] = .valid (info 9) ∧ s.localQ.length < 4 ∧ Quiet s) ∧
    Bank.empty.wellFormed ∧ bodyCheck [0] ≠ 1 :=
  ⟨fun crc body => loading_meets (some 0x44) crc body, bank_empty_wellFormed, by decide +kernel⟩

/-- Every setting and sequence, so also the sequence FFFFh, at which the next one is 0. -/
theorem witness_DirectoryWriteCompletes :
    (∀ (d : DirSetting) (target : CopyName) (sequence : Half),
      let s := working (.dirWrite 0x49 d target sequence) running911
      s.held = false ∧ s.store.op = some (.dirWrite 0x49 d target sequence) ∧ s.localQ.length < 4 ∧ Quiet s) ∧
    (∀ (d d' : DirSetting) (sequence : Half),
      let nv : NvStore := { NvStore.erased with copy0 := writtenCopy d (sequence + 1), copy1 := writtenCopy d' sequence }
      nv.copy0 = writtenCopy d (sequence + 1) ∧ nv.copy1 = writtenCopy d' sequence) ∧
    copySetting NvStore.erased.copy0 = none ∧ copySetting NvStore.erased.copy1 = none :=
  ⟨fun _ _ _ => ⟨rfl, rfl, (by decide : 3 < 4), running_quiet⟩, fun _ _ _ => ⟨rfl, rfl⟩, by decide +kernel, by decide +kernel⟩

/-- A setting with every field at its last value. -/
def lastSetting : DirSetting := { boot := some 3, fallback := true, mask := 15 }

/-- A store with two valid copies, the second written at a distance from the first. -/
def copiesAt (n : Half) : NvStore :=
  { NvStore.erased with copy0 := writtenCopy lastSetting 7, copy1 := writtenCopy DirSetting.none (7 + n) }

/-- The clauses of DirectoryWriteCompletes on the directory in force: two valid copies at the distances 0, 1, 32767, 32768 and 65535, one
valid copy, and none. -/
theorem witness_DirectoryWriteCompletes_inForce :
    (([0, 1, 32767, 32768, 65535] : List Half).all fun n =>
      copySetting (copiesAt n).copy0 == some lastSetting && copySetting (copiesAt n).copy1 == some DirSetting.none) = true ∧
    (([0, 1, 32767, 32768, 65535] : List Half).map fun n => (directoryInForce (copiesAt n)).inForce) =
      [some .copy0, some .copy1, some .copy1, some .copy0, some .copy0] ∧
    (directoryInForce { copiesAt 0 with copy1 := erasedCopy }).inForce = some .copy0 ∧
    (directoryInForce { copiesAt 0 with copy0 := erasedCopy }).inForce = some .copy1 ∧
    (directoryInForce NvStore.erased).inForce = none := by
  refine ⟨?_, ?_, ?_, ?_, ?_⟩ <;> decide +kernel

/-- The clauses of DirectoryWriteCompletes on one copy, just inside and just outside its ranges. -/
theorem witness_DirectoryWriteCompletes_copy :
    (let c := writtenCopy lastSetting 7
     c.check = dirCheck c ∧ c.mask = (15 : BitVec 4).setWidth 8 ∧ c.boot = byteOf 3 ∧ (writtenCopy DirSetting.none 7).boot = 0xFF) ∧
    erasedCopy.check ≠ dirCheck erasedCopy ∧ 16 ≤ (16 : Byte).toNat ∧ 4 ≤ (4 : Byte).toNat ∧ (0xFE : Byte) ≠ 0xFF := by
  refine ⟨⟨rfl, rfl, rfl, rfl⟩, ?_, ?_, ?_, ?_⟩ <;> decide +kernel

theorem witness_BankImageHoldsTheWholeBank :
    bank27.wellFormed ∧ bank27.curves[2] = some { start := 10, count := 3, policy := .clamp } := ⟨bank27_wellFormed, rfl⟩

/-- A part in a scan, whose store has a VALID profile with generation 9 in slot 1 under the given directory. -/
def scanning (d : DirSetting) (s : State) : State :=
  { s with
    store := { s.store with op := some .scan }
    nv := { NvStore.erased with
      slots := NvStore.erased.slots.set 1 { header := .valid (info 9) 0, body := none }, copy0 := writtenCopy d 12 } }

theorem witness_ScanCompletes :
    let r : BootRecord := { phase := .scan, candidate := none, tried := [] }
    let found := scanning { boot := some 1, fallback := false, mask := 0 } State.reset
    let lost := scanning { boot := some 2, fallback := false, mask := 0 } State.reset
    let kept := scanning DirSetting.none running
    let off (s : State) : State := { s with notices := { s.notices with mask := 6 } }
    (found.held = false ∧ found.store.op = some .scan ∧ found.boot = some r ∧
      candidate { found.store with
        op := none, table := Vector.ofFn fun i => classify (found.nv.slots[i]).header, view := directoryInForce found.nv } r.tried =
          some (1, 9)) ∧
    (lost.boot = some r ∧ lost.notices.mask.getLsbD 0 = true ∧ Roomy { lost with localQ := answers 3 } ∧ 4 ≤ (crowded lost).localQ.length ∧
      candidate { lost.store with
        op := none, table := Vector.ofFn fun i => classify (lost.nv.slots[i]).header, view := directoryInForce lost.nv } r.tried = none ∧
      (off lost).notices.mask.getLsbD 0 = false) ∧
    (kept.boot = none ∧ kept.notices.mask.getLsbD 0 = true ∧ Roomy kept ∧ 4 ≤ (crowded kept).localQ.length ∧
      (off kept).notices.mask.getLsbD 0 = false) ∧
    (lastNotice (after .scanComplete lost) = some (0x01, [0x01, 0xFF, 0, 0, 0, 0]) ∧
      lastNotice (after .scanComplete kept) = some (0x01, [0x02, 0xFF, 0, 0, 0, 0]) ∧
      (after .scanComplete (crowded lost)).notices.bootOutcome = some .empty ∧
      (after .scanComplete (crowded kept)).notices.bootOutcome = some .kept ∧
      (after .scanComplete (off (crowded kept))).notices.bootDone = .idle) := by decide +kernel

/-- The boot slot 1, the fallback to it from an EMPTY boot slot, and no candidate. -/
theorem witness_CandidateIsChosenInOrder :
    let store (boot : Option (Fin 4)) (fallback : Bool) : StoreController :=
      { running911.store with view := { running911.store.view with setting := { boot := boot, fallback := fallback, mask := 0 } } }
    GenerationsDistinct (fun i => (store none true).table[i]) ∧
    ((store (some 0) true).table[0] = .valid (info 7) ∧ (0 : Fin 4) ∉ ([] : List (Fin 4))) ∧
    ((store (some 2) true).table[2] = .empty ∧ (store (some 2) true).table[1] = .valid (info 9) ∧
      candidate (store (some 2) true) [] = some (1, 9) ∧ candidate (store (some 2) true) [1] = some (0, 7) ∧
      candidate (store (some 2) true) [0, 1] = none ∧ candidate (store (some 2) false) [] = none) := by decide +kernel

/-- A booting part with its first candidate, slot 1. -/
def booting (phase : BootPhase) (s : State) : State :=
  { s with
    mode := .booting
    boot := some { phase := phase, candidate := some (1, 9), tried := [1] }
    store := { s.store with view := { s.store.view with setting := { boot := some 1, fallback := true, mask := 0 } } } }

/-- The clauses on loads for every body and CRC, so for a body that matches (the empty bank's image) and for one that does not; with
another candidate left, and with none because every VALID slot has been tried. -/
theorem witness_BootTriesItsCandidates :
    let bootCommit : CommitRecord := { origin := .boot, tag := none, mode := .now, timeout := 0, timer := false }
    let testing (b : Bank) : State := booting .test { running911 with shadow := .validating .boot none, commit := some bootCommit, bankB := b }
    let r (phase : BootPhase) : BootRecord := { phase := phase, candidate := some (1, 9), tried := [1] }
    (∀ (crc : Word) (body : List Byte),
      let s := booting .load (loading none crc body)
      let marked : StoreController := { s.store with op := none, buffer := some body, table := s.store.table.set 1 (.damaged (info 9)) }
      s.held = false ∧ s.boot = some (r .load) ∧ s.store.op = some (.load none 1) ∧
        s.nv.slots[1] = { header := .valid (info 9) crc, body := some body } ∧ s.store.table[1] = .valid (info 9) ∧
        candidate marked [1] = some (0, 7) ∧ candidate marked [0, 1] = none ∧ s.notices.mask.getLsbD 0 = true ∧ Roomy s ∧
        4 ≤ (crowded s).localQ.length) ∧
    Bank.empty.wellFormed ∧ bodyCheck [0] ≠ 1 ∧
    ((testing (bank19 (1500, 2100) .bypass)).boot = some (r .test) ∧
      (testing (bank19 (1500, 2100) .bypass)).shadow = .validating .boot none ∧
      testBank (shadowBank (testing (bank19 (1500, 2100) .bypass))) = some { kind := .curveOrder, index := 1 } ∧
      (testing (bank19 (1500, 2100) .bypass)).commit = some bootCommit ∧ bootCommit.origin = .boot ∧
      candidate (testing (bank19 (1500, 2100) .bypass)).store [1] = some (0, 7) ∧
      candidate (testing (bank19 (1500, 2100) .bypass)).store [0, 1] = none) ∧
    ((testing bank27).held = false ∧ (r .test).candidate = some (1, 9) ∧ (testing bank27).stage = .idle ∧
      testBank (shadowBank (testing bank27)) = none ∧ (testing bank27).notices.mask.getLsbD 0 = true ∧
      Roomy { testing bank27 with localQ := answers 3 } ∧ 4 ≤ (crowded (testing bank27)).localQ.length ∧
      ({ running.notices with mask := 6 } : NoticeUnit).mask.getLsbD 0 = false) :=
  ⟨fun _ _ => ⟨rfl, rfl, rfl, Vector.getElem_set_self _, rfl, rfl, rfl, (by decide : running.notices.mask.getLsbD 0 = true),
      ⟨(by decide : 3 < 4), running_quiet.1⟩, (by decide : 4 ≤ 4)⟩,
    bank_empty_wellFormed, by decide +kernel, by decide +kernel⟩

/-- The first and the last completion kind, each unsolicited kind, and nothing pending. -/
theorem witness_FirstPendingNoticeTakesThePlace :
    let empty := running.notices
    let notice (what : Completion) : CompletionNotice := { tag := 0x11, what := what }
    let having (what : Completion) : NoticeUnit :=
      { empty with completions := empty.completions.set what.kind.index { pending := some (notice what), follower := some (notice what) } }
    let s (n : NoticeUnit) : State := { running with localQ := answers 3, notices := n }
    let booted : NoticeUnit := { empty with bootDone := .pending, bootOutcome := some .kept, overrun := .pending }
    let overran : NoticeUnit := { empty with overrun := .pending, sequence := .pending }
    let gathered : NoticeUnit := { empty with sequence := .pending, accumulator := 0x0084 }
    (∀ what ∈ [Completion.copyDone, .directoryDone .ok DirSetting.none],
      (s (having what)).held = false ∧ (s (having what)).localQ.length < 4 ∧
      ((s (having what)).notices.completions[what.kind.index]).pending = some (notice what) ∧
      ∀ i : Fin 7, i < what.kind.index → ((s (having what)).notices.completions[i]).pending = none) ∧
    (∀ n ∈ [booted, overran, gathered, empty], ∀ i : Fin 7, ((s n).notices.completions[i]).pending = none) ∧
    (booted.bootDone = .pending ∧ booted.bootOutcome = some .kept) ∧ (overran.bootDone ≠ .pending ∧ overran.overrun = .pending) ∧
    (gathered.bootDone ≠ .pending ∧ gathered.overrun ≠ .pending ∧ gathered.sequence = .pending) ∧
    4 ≤ (crowded (s booted)).localQ.length ∧ (s empty).notices.firstPending = none := by decide +kernel

/-- A state of which the front command leads to a next one. -/
theorem step_eq_after (c : Instr) (s : State) (hq : s.pending = []) (h : runs c s = true) :
    step { s with pending := [c] } = .next (after c s) := by
  have : ({ s with pending := [] } : State) = s := by rw [← hq]
  show exec c { s with pending := [] } = _
  rw [this]
  exact exec_eq_after c s h

theorem witness_StepKeepsQueuesAndUpstreamHold :
    let s : State := asserted { running with ingress := line 8, egress := line 7, localQ := answers 4 }
    QueuesBounded { s with pending := [.intakeSampleFrame] } ∧ FlowSound { s with pending := [.intakeSampleFrame] } ∧
    step { s with pending := [.intakeSampleFrame] } = .next (after .intakeSampleFrame s) :=
  ⟨by decide +kernel, by decide +kernel, step_eq_after _ _ rfl (by decide +kernel)⟩

theorem witness_StepConservesForwardFrames :
    let s : State := { correcting frame1 .unsynced with
      ingress := line 2, egress := line 3, counters := { Counters.zero with uAccepted := 6, dForwarded := 0, blocked := 0xFFFFFFFF, duplicates := 1 } }
    ForwardSound { s with pending := [.correctionDone] } ∧
    step { s with pending := [.correctionDone] } = .next (after .correctionDone s) :=
  ⟨by decide +kernel, step_eq_after _ _ rfl (by decide +kernel)⟩

theorem witness_StepKeepsTheBinding :
    let s : State := correcting frame1 .unsynced
    BindingSound { s with pending := [.correctionDone] } ∧
    step { s with pending := [.correctionDone] } = .next (after .correctionDone s) := by
  refine ⟨⟨by decide +kernel, ?_, nofun⟩, step_eq_after _ _ rfl (by decide +kernel)⟩
  intro f bank h
  cases h
  decide +kernel

theorem witness_ActiveBankIsValidAndNeverWritten :
    let s : State := armed (.atFrame 5 42) true { running27 with bankB := bank27, ingress := line 1 }
    ActiveSound { s with pending := [.intakeSampleFrame] } ∧ (∀ p, Instr.intakeSampleFrame ≠ .hardResetRelease p) ∧
    step { s with pending := [.intakeSampleFrame] } = .next (after .intakeSampleFrame s) :=
  ⟨⟨bank27_inService, fun _ => bank27_inService⟩, nofun, step_eq_after _ _ rfl (by decide +kernel)⟩

theorem witness_StepKeepsCurveSpansInThePool :
    let s : State := asked 0x12 [31, 1, 240, 16, 2] running27
    BanksSound { s with pending := [.writeCurve] } ∧
    step { s with pending := [.writeCurve] } = .next (after .writeCurve s) :=
  ⟨⟨bank27_wellFormed, bank_empty_wellFormed⟩, step_eq_after _ _ rfl (by decide +kernel)⟩

/-- A running part with nothing of the boot has its control states together. -/
theorem armed_controlSound (mode : CommitMode) (q : List Instr) : ControlSound { armed mode true running with pending := q } := by
  refine ⟨⟨rfl, ?_⟩, ⟨nofun, nofun⟩, fun _ => ⟨rfl, nofun, nofun, ?_⟩⟩
  · intro r h
    cases h
    exact ⟨rfl, fun _ => ⟨rfl, (by decide : (1000 : Half) ≠ 0)⟩⟩
  · intro r h
    cases h
    rfl

theorem witness_StepKeepsControlStatesTogether :
    let s : State := armed .now true running
    ControlSound { s with pending := [.commitTimerExpiry] } ∧
    step { s with pending := [.commitTimerExpiry] } = .next (after .commitTimerExpiry s) :=
  ⟨armed_controlSound _ _, step_eq_after _ _ rfl (by decide +kernel)⟩

theorem witness_StepKeepsOneNoticePerKind :
    let s : State := { armed .now true running with
      localQ := [.notice (buildNotice 0 0 0x02 [0, 0, 0, 1])], notices := { running.notices with overrun := .queued, overrunSet := true } }
    ControlSound { s with pending := [.dFrameStart] } ∧ NoticesSound { s with pending := [.dFrameStart] } ∧
    step { s with pending := [.dFrameStart] } = .next (after .dFrameStart s) := by
  refine ⟨armed_controlSound .now [], fun _ => ⟨?_, by decide +kernel⟩, step_eq_after _ _ rfl (by decide +kernel)⟩
  rintro (_ | _ | _) <;> decide +kernel

theorem witness_StepKeepsTheRestartHandshake :
    RestartSound { restarting .reload with pending := [.dFrameSent] } ∧
    step { restarting .reload with pending := [.dFrameSent] } = .next (after .dFrameSent (restarting .reload)) := by
  refine ⟨fun _ => ?_, step_eq_after _ _ rfl (by decide +kernel)⟩
  show restartResponses _ = 1
  decide +kernel

theorem witness_StepKeepsGenerationsDistinct :
    let s : State := { armed .now true running with
      store := { running.store with
        op := some (.save 0x42 3 10 (Vector.replicate 8 0)), buffer := some [1, 2, 3]
        table := #v[.valid (info 7), .damaged (info 9), .empty, .incomplete] }
      nv := { NvStore.erased with slots := #v[{ header := .valid (info 7) 0, body := none }, { header := .valid (info 9) 0, body := none },
        { header := .erased, body := none }, { header := .incomplete, body := none }] } }
    ControlSound { s with pending := [.saveComplete true] } ∧ StoreSound { s with pending := [.saveComplete true] } ∧
    step { s with pending := [.saveComplete true] } = .next (after (.saveComplete true) s) := by
  refine ⟨⟨(armed_controlSound .now []).1, by decide +kernel, fun _ => ⟨rfl, nofun, nofun, ?_⟩⟩, by decide +kernel,
    step_eq_after _ _ rfl (by decide +kernel)⟩
  intro r h
  cases h
  rfl

end Sys2Proof.Tests
end

/-! O19: evaluation inside the x range of a curve (R33, R34). -/

namespace Sys2Proof.Machine

/-! ### The rounded quotient (R34) -/

/-- The quotient rounded with a tie upwards: it is less than half a unit too low, and half a unit too high at most. -/
theorem halfUp_near (m : Int) {d : Int} (hd : 0 < d) :
    -d < 2 * ((2 * m + d) / (2 * d) * d - m) ∧ 2 * ((2 * m + d) / (2 * d) * d - m) ≤ d := by
  have hdiv := Int.mul_ediv_add_emod (2 * m + d) (2 * d)
  have hnonneg := Int.emod_nonneg (2 * m + d) (by omega : 2 * d ≠ 0)
  have hlt := Int.emod_lt_of_pos (2 * m + d) (by omega : 0 < 2 * d)
  constructor <;> linarith

/-- R34: the rounded quotient is off by half a unit at most, and a tie goes away from zero: a quotient below zero is the
mirror image of one above. -/
theorem roundQuotient_nearest (n : Int) {d : Int} (hd : 0 < d) :
    |2 * (roundQuotient n d * d - n)| ≤ d ∧ (2 * (roundQuotient n d * d - n) = d → 0 ≤ n) ∧
      (2 * (roundQuotient n d * d - n) = -d → n ≤ 0) := by
  rw [abs_le]
  unfold roundQuotient
  split
  next hn =>
    obtain ⟨hlow, hhigh⟩ := halfUp_near n hd
    exact ⟨⟨hlow.le, hhigh⟩, fun _ => hn, fun htie => absurd htie hlow.ne'⟩
  next hn =>
    obtain ⟨hlow, hhigh⟩ := halfUp_near (-n) hd
    refine ⟨⟨?_, ?_⟩, fun htie => ?_, fun _ => ?_⟩ <;> linarith

theorem le_roundQuotient {a n d : Int} (hd : 0 < d) (h : a * d ≤ n) : a ≤ roundQuotient n d := by
  obtain ⟨hnear, -, -⟩ := roundQuotient_nearest n hd
  have hlow := (abs_le.mp hnear).1
  by_contra hlt
  nlinarith

theorem roundQuotient_le {b n d : Int} (hd : 0 < d) (h : n ≤ b * d) : roundQuotient n d ≤ b := by
  obtain ⟨hnear, -, -⟩ := roundQuotient_nearest n hd
  have hhigh := (abs_le.mp hnear).2
  by_contra hlt
  nlinarith

theorem roundQuotient_mul_self (m : Int) {d : Int} (hd : 0 < d) : roundQuotient (m * d) d = m :=
  le_antisymm (roundQuotient_le hd le_rfl) (le_roundQuotient hd le_rfl)

/-! ### The line of a segment (R34) -/

theorem lineAt_left {p q : Point} (h : p.x.toInt < q.x.toInt) : lineAt p q p.x.toInt = p.y.toInt := by
  have hzero := roundQuotient_mul_self 0 (sub_pos.mpr h)
  rw [zero_mul] at hzero
  simp [lineAt, hzero]

theorem lineAt_right {p q : Point} (h : p.x.toInt < q.x.toInt) : lineAt p q q.x.toInt = q.y.toInt := by
  simp [lineAt, roundQuotient_mul_self _ (sub_pos.mpr h)]

/-- R34: inside a segment the bounds of N / D are integers, so the rounded value stays within them. -/
theorem lineAt_between {p q : Point} {x : Int} (hpq : p.x.toInt < q.x.toInt) (hp : p.x.toInt ≤ x) (hq : x ≤ q.x.toInt) :
    min p.y.toInt q.y.toInt ≤ lineAt p q x ∧ lineAt p q x ≤ max p.y.toInt q.y.toInt := by
  have hd : 0 < q.x.toInt - p.x.toInt := sub_pos.mpr hpq
  have ht : 0 ≤ x - p.x.toInt := sub_nonneg.mpr hp
  have htd : x - p.x.toInt ≤ q.x.toInt - p.x.toInt := by omega
  unfold lineAt
  rcases le_total p.y.toInt q.y.toInt with hy | hy
  · have hlow : 0 ≤ roundQuotient _ _ :=
      le_roundQuotient hd (by simpa using mul_nonneg (sub_nonneg.mpr hy) ht)
    have hhigh := roundQuotient_le hd (mul_le_mul_of_nonneg_left htd (sub_nonneg.mpr hy))
    omega
  · have hlow := le_roundQuotient hd (mul_le_mul_of_nonpos_left htd (sub_nonpos.mpr hy))
    have hhigh : roundQuotient _ _ ≤ 0 :=
      roundQuotient_le hd (by simpa using mul_nonpos_of_nonpos_of_nonneg (sub_nonpos.mpr hy) ht)
    omega

/-- R34: inside a segment the value is representable. -/
theorem toInt_ofInt_lineAt {p q : Point} {x : Int} (hpq : p.x.toInt < q.x.toInt) (hp : p.x.toInt ≤ x)
    (hq : x ≤ q.x.toInt) : (BitVec.ofInt 16 (lineAt p q x)).toInt = lineAt p q x := by
  obtain ⟨hlow, hhigh⟩ := lineAt_between hpq hp hq
  have hpy := p.y.toInt_lt
  have hpy' := p.y.le_toInt
  have hqy := q.y.toInt_lt
  have hqy' := q.y.le_toInt
  exact BitVec.toInt_ofInt_eq_self (by decide) (by omega) (by omega)

/-! ### Ordered points and the lowest segment (R12, R33) -/

theorem ordered_iff_isChain : ∀ points : List Point,
    ordered points = true ↔ points.IsChain fun p q => p.x.toInt < q.x.toInt
  | [] | [_] => by simp [ordered]
  | p :: q :: rest => by simp [ordered, ordered_iff_isChain (q :: rest)]

theorem x_lt_of_ordered {points : List Point} (ho : ordered points = true) {i j : Nat} {p q : Point} (hij : i < j)
    (hp : points[i]? = some p) (hq : points[j]? = some q) : p.x.toInt < q.x.toInt := by
  have : IsTrans Point fun p q => p.x.toInt < q.x.toInt := ⟨fun _ _ _ => Int.lt_trans⟩
  have hpairs := List.pairwise_iff_getElem.mp (List.isChain_iff_pairwise.mp ((ordered_iff_isChain points).mp ho))
  obtain ⟨hi, rfl⟩ := List.getElem?_eq_some_iff.mp hp
  obtain ⟨hj, rfl⟩ := List.getElem?_eq_some_iff.mp hq
  exact hpairs i j hi hj hij

theorem x_le_of_ordered {points : List Point} (ho : ordered points = true) {i j : Nat} {p q : Point} (hij : i ≤ j)
    (hp : points[i]? = some p) (hq : points[j]? = some q) : p.x.toInt ≤ q.x.toInt := by
  rcases hij.eq_or_lt with rfl | hlt
  · cases hp.symm.trans hq
    exact le_rfl
  · exact (x_lt_of_ordered ho hlt hp hq).le

/-- R33: p and q are the points i and i + 1, x lies from p to q, and every segment below ends before x. -/
structure LowestSegment (points : List Point) (x : Int) (i : Nat) (p q : Point) : Prop where
  left : points[i]? = some p
  right : points[i + 1]? = some q
  left_le : p.x.toInt ≤ x
  le_right : x ≤ q.x.toInt
  below : ∀ j u v, j < i → points[j]? = some u → points[j + 1]? = some v → v.x.toInt < x

/-- A first segment that ends before x moves the lowest segment up by one. -/
theorem LowestSegment.cons {p q u v : Point} {rest : List Point} {x : Int} {i : Nat}
    (h : LowestSegment (q :: rest) x i u v) (hq : q.x.toInt < x) : LowestSegment (p :: q :: rest) x (i + 1) u v := by
  refine ⟨h.left, h.right, h.left_le, h.le_right, fun j a b hj ha hb => ?_⟩
  cases j with
  | zero =>
    cases hb
    exact hq
  | succ j => exact h.below j a b (by omega) ha hb

theorem getLast?_eq_lastSegment (p q : Point) (rest : List Point) :
    (p :: q :: rest).getLast? = some (lastSegment p q rest).2 := by
  induction rest generalizing p q with
  | nil => rfl
  | cons r more ih => rw [List.getLast?_cons_cons, ih, lastSegment]

theorem segment_lowest (p q : Point) (rest : List Point) {x : Int} (hp : p.x.toInt ≤ x)
    (hx : x ≤ (lastSegment p q rest).2.x.toInt) :
    ∃ i, LowestSegment (p :: q :: rest) x i (segment p q rest x).1 (segment p q rest x).2 := by
  induction rest generalizing p q with
  | nil => exact ⟨0, rfl, rfl, hp, hx, nofun⟩
  | cons r more ih =>
    unfold segment
    split
    next hq => exact ⟨0, rfl, rfl, hp, hq, nofun⟩
    next hq =>
      obtain ⟨i, hi⟩ := ih q r (not_le.mp hq).le hx
      exact ⟨i + 1, hi.cons (not_le.mp hq)⟩

/-! ### Evaluation inside the range (R33, R34) -/

/-- R33, R34: from the first x to the last, the value is that of the line of the lowest segment, whatever the end policy. -/
theorem evalCurve_of_inRange {points : List Point} (policy : EndPolicy) {raw : Half} {first last : Point}
    (hlen : 2 ≤ points.length) (hfirst : points.head? = some first) (hlast : points.getLast? = some last)
    (hlow : first.x.toInt ≤ raw.toInt) (hhigh : raw.toInt ≤ last.x.toInt) :
    ∃ i p q, LowestSegment points raw.toInt i p q ∧
      evalCurve points policy raw = { value := BitVec.ofInt 16 (lineAt p q raw.toInt), range := false, sat := false } := by
  match points, hlen with
  | p :: q :: rest, _ =>
    cases hfirst
    cases (getLast?_eq_lastSegment _ q rest).symm.trans hlast
    obtain ⟨i, hi⟩ := segment_lowest _ q rest hlow hhigh
    exact ⟨i, _, _, hi, by simp [evalCurve, hlow.not_gt, hhigh.not_gt]⟩

/-- R33: a breakpoint that lies in the lowest segment of its own x is an end of that segment. -/
theorem LowestSegment.eq_end_of_breakpoint {points : List Point} (ho : ordered points = true) {i j : Nat} {p q b : Point}
    (h : LowestSegment points b.x.toInt i p q) (hb : points[j]? = some b) : b = p ∨ b = q := by
  obtain hlt | rfl | rfl | hgt : j < i ∨ j = i ∨ j = i + 1 ∨ i + 1 < j := by omega
  · exact absurd h.left_le (x_lt_of_ordered ho hlt hb h.left).not_ge
  · exact .inl (Option.some.inj (hb.symm.trans h.left))
  · exact .inr (Option.some.inj (hb.symm.trans h.right))
  · exact absurd h.le_right (x_lt_of_ordered ho hgt h.right hb).not_ge

theorem evalCurve_breakpoint {points : List Point} (policy : EndPolicy) {j : Nat} {b : Point} (hlen : 2 ≤ points.length)
    (ho : ordered points = true) (hb : points[j]? = some b) :
    evalCurve points policy b.x = { value := b.y, range := false, sat := false } := by
  have hj : j < points.length := (List.getElem?_eq_some_iff.mp hb).1
  have hfirst : points[0]? = some points[0] := List.getElem?_eq_getElem _
  have hlast : points[points.length - 1]? = some points[points.length - 1] := List.getElem?_eq_getElem _
  obtain ⟨i, p, q, hseg, heval⟩ := evalCurve_of_inRange policy hlen (List.head?_eq_getElem?.trans hfirst)
    (List.getLast?_eq_getElem?.trans hlast) (x_le_of_ordered ho (Nat.zero_le j) hfirst hb)
    (x_le_of_ordered ho (by omega) hb hlast)
  have hpq := x_lt_of_ordered ho i.lt_succ_self hseg.left hseg.right
  rw [heval]
  rcases hseg.eq_end_of_breakpoint ho hb with rfl | rfl
  · rw [lineAt_left hpq, BitVec.ofInt_toInt]
  · rw [lineAt_right hpq, BitVec.ofInt_toInt]

/-- Settles O19: the line of the lowest segment is rounded to the nearest integer, stays between the ends, and meets them. -/
theorem curveInterpolatesInRange : Obligations.CurveInterpolatesInRange := by
  unfold Obligations.CurveInterpolatesInRange
  refine ⟨fun points policy raw first last hlen ho hfirst hlast hlow hhigh => ?_,
    fun points policy j b hlen ho hb => evalCurve_breakpoint policy hlen ho hb⟩
  obtain ⟨i, p, q, hseg, heval⟩ := evalCurve_of_inRange policy hlen hfirst hlast hlow hhigh
  have hpq := x_lt_of_ordered ho i.lt_succ_self hseg.left hseg.right
  have hvalue := toInt_ofInt_lineAt hpq hseg.left_le hseg.le_right
  have hk : lineAt p q raw.toInt - p.y.toInt = roundQuotient _ _ := add_sub_cancel_left _ _
  obtain ⟨hnear, htieUp, htieDown⟩ := roundQuotient_nearest
    ((q.y.toInt - p.y.toInt) * (raw.toInt - p.x.toInt)) (sub_pos.mpr hpq)
  obtain ⟨hmin, hmax⟩ := lineAt_between hpq hseg.left_le hseg.le_right
  refine ⟨i, p, q, hseg.left, hseg.right, hseg.left_le, hseg.le_right, hseg.below, ?_⟩
  simp only [heval, hvalue, hk]
  exact ⟨sub_pos.mpr hpq, trivial, trivial, hnear, htieUp, htieDown, hmin, hmax⟩

end Sys2Proof.Machine

/-! O8: the frame check bit by bit, and the bytes of built and of accepted frames (R69, R72). -/

namespace Sys2Proof.Machine

/-! ### One bit of the frame check (R69) -/

/-- R69: one message bit enters the check at the top. -/
def feedBit (c : Half) (bit : Bool) : Half := if (c.msb ^^ bit) = true then (c <<< 1) ^^^ 0x1021#16 else c <<< 1

theorem feedBit_false (c : Half) : feedBit c false = crc16Bit c := by
  rw [feedBit, Bool.xor_false, crc16Bit]

/-- Of bits laid over the check, the top one enters now and the others stay for the next shifts. -/
theorem crc16Bit_xor (c d : Half) : crc16Bit (c ^^^ d) = feedBit c d.msb ^^^ (d <<< 1) := by
  rw [crc16Bit, feedBit, BitVec.msb_xor, BitVec.shiftLeft_xor_distrib]
  split
  · rw [BitVec.xor_assoc, BitVec.xor_comm (d <<< 1), ← BitVec.xor_assoc]
  · rfl

/-- The check step loses no bit: one that leaves at the top sets the lowest bit, which the polynomial has. -/
theorem crc16Bit_eq_zero_iff (c : Half) : crc16Bit c = 0 ↔ c = 0 := by
  refine ⟨fun h => ?_, by rintro rfl; rfl⟩
  unfold crc16Bit at h
  split at h
  next => simpa using congrArg (·.getLsbD 0) h
  next hmsb =>
    have hlt : c.toNat < 2 ^ 15 := BitVec.toNat_lt_of_msb_false (Bool.eq_false_iff.mpr hmsb)
    have hdouble : (c <<< 1).toNat = 0 := congrArg BitVec.toNat h
    refine BitVec.eq_of_toNat_eq ?_
    rw [BitVec.toNat_shiftLeft, Nat.shiftLeft_eq] at hdouble
    show c.toNat = 0
    omega

/-! ### A run of bits -/

theorem iterate_eq_natIterate {α : Type} (f : α → α) (n : Nat) (a : α) : iterate f n a = f^[n] a := by
  induction n generalizing a with
  | zero => rfl
  | succ n ih => exact ih (f a)

theorem iterate_succ' {α : Type} (f : α → α) (n : Nat) (a : α) : iterate f (n + 1) a = f (iterate f n a) := by
  simp only [iterate_eq_natIterate, Function.iterate_succ_apply']

theorem iterate_iterate {α : Type} (f : α → α) (m n : Nat) (a : α) : iterate f m (iterate f n a) = iterate f (m + n) a := by
  simp only [iterate_eq_natIterate, Function.iterate_add_apply]

theorem iterate_crc16Bit_eq_zero_iff (n : Nat) (c : Half) : iterate crc16Bit n c = 0 ↔ c = 0 := by
  induction n generalizing c with
  | zero => rfl
  | succ n ih => exact (ih _).trans (crc16Bit_eq_zero_iff c)

/-- Bits laid over the check beforehand are the bits fed one by one; those not yet reached are still laid over it. -/
theorem iterate_crc16Bit_xor (c d : Half) (n : Nat) :
    iterate crc16Bit n (c ^^^ d) = (List.range n).foldl (fun c i => feedBit c (d <<< i).msb) c ^^^ (d <<< n) := by
  induction n with
  | zero => simp [iterate]
  | succ n ih => rw [iterate_succ', ih, crc16Bit_xor, List.range_succ, List.foldl_concat, BitVec.shiftLeft_add]

theorem foldl_feedBit_false (n : Nat) (c : Half) :
    (List.range n).foldl (fun c _ => feedBit c false) c = iterate crc16Bit n c := by
  induction n with
  | zero => rfl
  | succ n ih => rw [List.range_succ, List.foldl_concat, ih, feedBit_false, iterate_succ']

/-! ### One byte and two bytes -/

theorem msb_highByte_shiftLeft (b : Byte) {i : Nat} (hi : i < 8) :
    ((b.setWidth 16 <<< 8) <<< i).msb = b.getLsbD (7 - i) := by
  have hindex : 15 - i - 8 = 7 - i := by omega
  have hbound : i ≤ 15 := by omega
  have hhigh : 8 ≤ 15 - i := by omega
  simp [BitVec.msb_eq_getLsbD_last, hindex, hbound.not_gt, hhigh.not_gt]

theorem msb_lowByte_shiftLeft (b : Byte) {i : Nat} (hi : i < 8) : (b.setWidth 16 <<< i).msb = false := by
  have hhigh : 8 ≤ 15 - i := by omega
  simp [BitVec.msb_eq_getLsbD_last, BitVec.getLsbD_of_ge b _ hhigh]

/-- R69: a byte enters the check bit by bit, most significant first. -/
theorem crc16Byte_eq_foldl_feedBit (c : Half) (b : Byte) :
    crc16Byte c b = (List.range 8).foldl (fun c i => feedBit c (b.getLsbD (7 - i))) c := by
  have hleft : (b.setWidth 16 <<< 8 : Half) <<< 8 = 0#16 := by
    rw [← BitVec.shiftLeft_add]
    exact BitVec.shiftLeft_eq_zero (by decide)
  rw [crc16Byte, iterate_crc16Bit_xor, hleft, BitVec.xor_zero]
  refine List.foldl_ext _ _ _ fun c i hi => ?_
  rw [msb_highByte_shiftLeft b (List.mem_range.mp hi)]

/-- A byte laid over the low half of the check is, eight bits later, that byte laid over the high half. -/
theorem iterate_crc16Bit_xor_lowByte (c : Half) (b : Byte) :
    iterate crc16Bit 8 (c ^^^ b.setWidth 16) = iterate crc16Bit 8 c ^^^ (b.setWidth 16 <<< 8) := by
  rw [iterate_crc16Bit_xor, ← foldl_feedBit_false]
  congr 1
  refine List.foldl_ext _ _ _ fun c i hi => ?_
  rw [msb_lowByte_shiftLeft b (List.mem_range.mp hi)]

theorem halfOf_eq_xor (hi lo : Byte) : halfOf hi lo = (hi.setWidth 16 <<< 8) ^^^ lo.setWidth 16 := by
  refine BitVec.eq_of_getLsbD_eq fun i hi16 => ?_
  have happend : (halfOf hi lo).getLsbD i = if i < 8 then lo.getLsbD i else hi.getLsbD (i - 8) := BitVec.getLsbD_append
  rw [happend, BitVec.getLsbD_xor]
  split
  next hlow => simp [hlow, hi16]
  next hhigh => simp [hhigh, hi16, BitVec.getLsbD_of_ge lo i (not_lt.mp hhigh)]

theorem crc16Byte_crc16Byte (c : Half) (hi lo : Byte) :
    crc16Byte (crc16Byte c hi) lo = iterate crc16Bit 16 (c ^^^ halfOf hi lo) := by
  rw [crc16Byte, crc16Byte, ← iterate_crc16Bit_xor_lowByte, iterate_iterate, halfOf_eq_xor, BitVec.xor_assoc]

/-! ### The check over a whole frame (R69) -/

/-- R69: the check of the spec's nine bytes. -/
theorem frameCheck_nineDigits : frameCheck [0x31, 0x32, 0x33, 0x34, 0x35, 0x36, 0x37, 0x38, 0x39] = 0x29B1 := by
  decide +kernel

theorem frameCheck_concat (bytes : List Byte) (b : Byte) : frameCheck (bytes ++ [b]) = crc16Byte (frameCheck bytes) b :=
  List.foldl_concat ..

/-- R69: over a frame with its check the check is 0 exactly when the check is right. -/
theorem frameCheck_residue (bytes : List Byte) (hi lo : Byte) :
    frameCheck bytes = halfOf hi lo ↔ frameCheck (bytes ++ [hi, lo]) = 0 := by
  have hsplit : frameCheck (bytes ++ [hi, lo]) = crc16Byte (crc16Byte (frameCheck bytes) hi) lo := List.foldl_append
  rw [hsplit, crc16Byte_crc16Byte, iterate_crc16Bit_eq_zero_iff]
  exact BitVec.xor_eq_zero_iff.symm

/-! ### The frames the part builds (R72) -/

theorem check_buildSample (group : Fin 16) (sequence flags : Byte) (samples : List Half) :
    (buildSample group sequence flags samples).check = frameCheck (buildSample group sequence flags samples).body := by
  simp only [buildSample, SampleFrame.body]

theorem check_buildResponse (source tag code result : Byte) (data : List Byte) :
    (buildResponse source tag code result data).check = frameCheck (buildResponse source tag code result data).body := by
  simp only [buildResponse, ResponseFrame.body]

theorem check_buildNotice (source tag code : Byte) (data : List Byte) :
    (buildNotice source tag code data).check = frameCheck (buildNotice source tag code data).body := by
  simp only [buildNotice, NoticeFrame.body]

theorem check_buildEnum (next : Fin 32) (tag : Byte) : (buildEnum next tag).check = frameCheck (buildEnum next tag).body := by
  simp only [buildEnum, EnumFrame.body]

theorem check_buildHold (duration : Byte) : (buildHold duration).check = frameCheck (buildHold duration).body := by
  simp only [buildHold, LinkFrame.body, LinkFrame.check]

theorem check_buildRelease : buildRelease.check = frameCheck buildRelease.body := by
  simp only [buildRelease, LinkFrame.body, LinkFrame.check]

/-! ### Fields as bytes -/

theorem byteOf_toNat (b : Byte) : byteOf b.toNat = b := by simp [byteOf]

theorem halfBytes_halfOf (hi lo : Byte) : halfBytes (halfOf hi lo) = [hi, lo] :=
  congrArg₂ (fun a b => [a, b]) BitVec.extractLsb'_append_eq_left BitVec.extractLsb'_append_eq_right

theorem length_flatMap_halfBytes (hs : List Half) : (hs.flatMap halfBytes).length = 2 * hs.length := by
  simp [List.length_flatMap, halfBytes, mul_comm]

theorem flatMap_halfBytes_halvesOf : ∀ (n : Nat) (bytes : List Byte), bytes.length = 2 * n →
    (halvesOf bytes).flatMap halfBytes = bytes
  | 0, [], _ => rfl
  | n + 1, hi :: lo :: rest, h => by
    have hrest : rest.length = 2 * n := by simpa [Nat.mul_succ] using h
    rw [halvesOf, List.flatMap_cons, halfBytes_halfOf, flatMap_halfBytes_halvesOf n rest hrest]
    rfl

/-! ### What a parser accepts it reads back (R70, R73 to R77) -/

theorem bytes_eq_body_append_check (f : Frame) : f.bytes = f.body ++ halfBytes f.check := by
  rcases f with (_ | _ | _) | (_ | _) | _ <;> rfl

theorem body_check_of_parseSample {check : Half} {body : List Byte} {f : SampleFrame}
    (hkind : body.head? = some 0x01#8) (h : parseSample check body = some f) : f.body = body ∧ f.check = check := by
  unfold parseSample at h
  split at h
  next _ group sequence flags count samples =>
    cases hkind
    simp only [Option.dite_none_right_eq_some, Option.ite_none_right_eq_some] at h
    obtain ⟨_, ⟨_, _, hlen⟩, ⟨⟩⟩ := h
    have hsamples := flatMap_halfBytes_halvesOf _ samples hlen
    have hcount : (halvesOf samples).length = count.toNat := by
      have hlength := length_flatMap_halfBytes (halvesOf samples)
      rw [hsamples] at hlength
      omega
    exact ⟨by simp [SampleFrame.body, hsamples, hcount, byteOf_toNat], rfl⟩
  next => cases h

theorem body_check_of_parseResponse {check : Half} {body : List Byte} {f : ResponseFrame}
    (hkind : body.head? = some 0x03#8) (h : parseResponse check body = some f) : f.body = body ∧ f.check = check := by
  unfold parseResponse at h
  split at h
  next _ source tag code result len data =>
    cases hkind
    simp only [Option.ite_none_right_eq_some] at h
    obtain ⟨⟨_, hlen⟩, ⟨⟩⟩ := h
    exact ⟨by simp [ResponseFrame.body, hlen, byteOf_toNat], rfl⟩
  next => cases h

theorem body_check_of_parseNotice {check : Half} {body : List Byte} {f : NoticeFrame}
    (hkind : body.head? = some 0x04#8) (h : parseNotice check body = some f) : f.body = body ∧ f.check = check := by
  unfold parseNotice at h
  split at h
  next _ source tag code len data =>
    cases hkind
    simp only [Option.ite_none_right_eq_some] at h
    obtain ⟨⟨_, hlen⟩, ⟨⟩⟩ := h
    exact ⟨by simp [NoticeFrame.body, hlen, byteOf_toNat], rfl⟩
  next => cases h

theorem body_check_of_parseRequest {check : Half} {body : List Byte} {f : RequestFrame}
    (hkind : body.head? = some 0x02#8) (h : parseRequest check body = some f) : f.body = body ∧ f.check = check := by
  unfold parseRequest at h
  split at h
  next _ target tag code len params =>
    cases hkind
    simp only [Option.dite_none_right_eq_some, Option.ite_none_right_eq_some] at h
    obtain ⟨_, ⟨_, hlen⟩, ⟨⟩⟩ := h
    exact ⟨by simp [RequestFrame.body, hlen, byteOf_toNat], rfl⟩
  next => cases h

theorem body_check_of_parseEnum {check : Half} {body : List Byte} {f : EnumFrame}
    (hkind : body.head? = some 0x05#8) (h : parseEnum check body = some f) : f.body = body ∧ f.check = check := by
  unfold parseEnum at h
  split at h
  next _ address tag =>
    cases hkind
    simp only [Option.dite_none_right_eq_some, Option.ite_none_left_eq_some] at h
    obtain ⟨_, _, ⟨⟩⟩ := h
    exact ⟨by simp [EnumFrame.body, byteOf_toNat], rfl⟩
  next => cases h

theorem body_check_of_parseHold {check : Half} {body : List Byte} {f : LinkFrame}
    (hkind : body.head? = some 0x06#8) (h : parseHold check body = some f) : f.body = body ∧ f.check = check := by
  unfold parseHold at h
  split at h
  next _ duration =>
    cases hkind
    simp only [Option.ite_none_left_eq_some] at h
    obtain ⟨_, ⟨⟩⟩ := h
    exact ⟨rfl, rfl⟩
  next => cases h

theorem body_check_of_parseRelease {check : Half} {body : List Byte} {f : LinkFrame}
    (hkind : body.head? = some 0x07#8) (h : parseRelease check body = some f) : f.body = body ∧ f.check = check := by
  unfold parseRelease at h
  split at h
  next _ =>
    cases hkind
    cases h
    exact ⟨rfl, rfl⟩
  next => cases h

/-- R70: what a port accepts, of whatever kind, has the body and the check it was read from. -/
theorem body_check_of_parseBody {port : Port} {check : Half} {body : List Byte} {f : Frame}
    (h : parseBody port check body = some f) : f.body = body ∧ f.check = check := by
  unfold parseBody at h
  split at h
  case h_8 => cases h
  all_goals obtain ⟨g, hg, rfl⟩ := Option.map_eq_some_iff.mp h
  case h_1 hkind => exact body_check_of_parseSample hkind hg
  case h_2 hkind => exact body_check_of_parseResponse hkind hg
  case h_3 hkind => exact body_check_of_parseNotice hkind hg
  case h_4 hkind => exact body_check_of_parseRequest hkind hg
  case h_5 hkind => exact body_check_of_parseEnum hkind hg
  case h_6 hkind => exact body_check_of_parseHold hkind hg
  case h_7 hkind => exact body_check_of_parseRelease hkind hg

/-! ### Accepted frames (R68) -/

/-- R68: an accepted frame is a body that parses, under the check its last two bytes hold. -/
theorem parseBody_of_judge_accepted {port : Port} {bytes : List Byte} {f : Frame} (h : judge port bytes = .accepted f) :
    ∃ body hi lo, bytes = body ++ [hi, lo] ∧ parseBody port (halfOf hi lo) body = some f := by
  unfold judge at h
  split at h
  next => cases h
  next =>
    dsimp only at h
    split at h
    next hi lo htail =>
      refine ⟨bytes.take (bytes.length - 2), hi, lo, by rw [← htail, List.take_append_drop], ?_⟩
      split at h
      next => cases h
      next =>
        split at h
        next hparse =>
          cases h
          exact hparse
        next => cases h
    next => cases h

theorem bytes_eq_of_judge_accepted {port : Port} {bytes : List Byte} {f : Frame} (h : judge port bytes = .accepted f) :
    f.bytes = bytes := by
  obtain ⟨body, hi, lo, rfl, hparse⟩ := parseBody_of_judge_accepted h
  obtain ⟨hbody, hcheck⟩ := body_check_of_parseBody hparse
  rw [bytes_eq_body_append_check, hbody, hcheck, halfBytes_halfOf]

/-- Settles O8: a byte is eight fed bits, a frame with its check leaves 0 as the check step loses no bit, and every parser
keeps the body and the check it reads. -/
theorem frameCheckIsTheCyclicCheck : Obligations.FrameCheckIsTheCyclicCheck := by
  unfold Obligations.FrameCheckIsTheCyclicCheck
  exact ⟨rfl, fun bytes b => (frameCheck_concat bytes b).trans (crc16Byte_eq_foldl_feedBit _ b),
    frameCheck_nineDigits, frameCheck_residue, bytes_eq_body_append_check, check_buildSample, check_buildResponse, check_buildNotice,
    check_buildEnum, check_buildHold, check_buildRelease, fun _ _ _ => bytes_eq_of_judge_accepted⟩

end Sys2Proof.Machine

/-! O11, O12, O21: the line of forward frames under every command (R92), the upstream hold by occupancy (R101 to R103), and the
hold state of port D (R96 to R98). -/

namespace Sys2Proof.Machine

/-! ### The places of the forward frames -/

/-- R92: what the line of forward frames is read from: the forward egress queue, the intake, the stage and the ingress queue. -/
def forwardPlaces (s : State) : List ForwardFrame × Intake × Stage × List ForwardFrame :=
  (s.egress, s.intake, s.stage, s.ingress)

theorem forwardPlaces_eq_iff {s t : State} : forwardPlaces t = forwardPlaces s ↔
    t.egress = s.egress ∧ t.intake = s.intake ∧ t.stage = s.stage ∧ t.ingress = s.ingress := by
  simp only [forwardPlaces, Prod.mk.injEq]

theorem forwardLine_of_places {s t : State} (h : forwardPlaces t = forwardPlaces s) : forwardLine t = forwardLine s := by
  obtain ⟨hegress, hintake, hstage, hingress⟩ := forwardPlaces_eq_iff.mp h
  simp only [forwardLine, frameAtIntake, hegress, hintake, hstage, hingress]

theorem NoticeStep.places {s t : State} (h : NoticeStep s t) : forwardPlaces t = forwardPlaces s :=
  forwardPlaces_eq_iff.mpr ⟨h.egress, h.intake, h.stage, h.ingress⟩

/-- R185: a part that is not held answers the effect of the event. -/
theorem eq_of_unlessHeld {s after t : State} (hrun : s.held = false) (h : unlessHeld s after = .next t) : t = after := by
  rw [unlessHeld_of_running after hrun] at h
  cases h
  rfl

theorem places_of_unlessHeld {s after t : State} (hafter : forwardPlaces after = forwardPlaces s) (hrun : s.held = false)
    (h : unlessHeld s after = .next t) : forwardPlaces t = forwardPlaces s := by
  rw [eq_of_unlessHeld hrun h, hafter]

/-! ### Reception and the reverse queues leave the forward places alone -/

theorem setRx_places (p : Port) (r : Receiver) (s : State) : forwardPlaces (setRx p r s) = forwardPlaces s := by
  cases p <;> rfl

theorem countMalformed_places (p : Port) (s : State) : forwardPlaces (countMalformed p s) = forwardPlaces s := by
  cases p <;> rfl

theorem countCheckError_places (p : Port) (s : State) : forwardPlaces (countCheckError p s) = forwardPlaces s := by
  cases p <;> rfl

theorem offerRequest_places (f : ReverseFrame) (s : State) : forwardPlaces (offerRequest f s) = forwardPlaces s := by
  unfold offerRequest
  split <;> rfl

theorem offerReverse_places (f : ReverseFrame) (s : State) : forwardPlaces (offerReverse f s) = forwardPlaces s := by
  unfold offerReverse
  split <;> rfl

/-! ### Requests leave the forward places alone -/

theorem setShadowBank_places (b : Bank) (s : State) : forwardPlaces (setShadowBank b s) = forwardPlaces s := by
  unfold setShadowBank
  split <;> rfl

theorem offerAnswer_places (response : ResponseFrame) (successor : Option EnumFrame) (restart : Option RestartForm) (s : State) :
    forwardPlaces (offerAnswer response successor restart s) = forwardPlaces s := by
  have hentered : forwardPlaces (if responseRoom s then pushLocal (.response response) s else s) = forwardPlaces s := by
    split <;> rfl
  refine Eq.trans ?_ hentered
  unfold offerAnswer
  cases successor with
  | none => rfl
  | some e => cases reverseRoom s <;> rfl

theorem respond_places (f : RequestFrame) (a : Answer) (s : State) : forwardPlaces (respond f a s) = forwardPlaces s := by
  unfold respond
  split
  · exact (raiseCompletion_step _ _ _).places.trans (offerAnswer_places _ _ _ s)
  · exact offerAnswer_places _ _ _ s

/-- R128: a request moves a forward frame only if its own meaning does. -/
theorem takeRequest_places {r : RequestRules} {run : RequestFrame → State → State × Answer}
    (hmeaning : ∀ f s, forwardPlaces (run f s).1 = forwardPlaces s) (s : State) :
    forwardPlaces (takeRequest r run s) = forwardPlaces s := by
  unfold takeRequest
  split
  next f rest _ _ =>
    split
    · dsimp only
      split
      · exact respond_places _ _ _
      · exact (respond_places _ _ _).trans (hmeaning f _)
    · rfl
  next => rfl

theorem clearedCounters_places (p : List Byte) (s : State) : forwardPlaces (clearedCounters p s) = forwardPlaces s := by
  unfold clearedCounters
  split <;> simp only [forwardPlaces]

theorem runReadCounters_places (f : RequestFrame) (s : State) : forwardPlaces (runReadCounters f s).1 = forwardPlaces s := by
  unfold runReadCounters
  dsimp only
  split
  · exact clearedCounters_places f.params s
  · rfl

theorem runCommit_places (f : RequestFrame) (s : State) : forwardPlaces (runCommit f s).1 = forwardPlaces s := by
  unfold runCommit
  split <;> rfl

/-! ### The ends of a commit -/

theorem endBootLoaded_step (s : State) : NoticeStep { s with mode := .running, boot := none } (endBootLoaded s) := by
  unfold endBootLoaded
  dsimp only
  split
  · exact reportBoot_step _ _
  · exact .refl _

/-- R60: what a swap can do: the effects of R60, and the end of the boot or a notice. -/
theorem swap_eq (s : State) : ∃ mode boot notices localQ, swap s = { s with
    active := s.active.other, shadow := .editable, commit := none
    slotCounts := Vector.replicate 64 { sat := 0, range := 0 }
    trackers := swapTrackers (activeBank s) (shadowBank s) s.trackers
    mode := mode, boot := boot, notices := notices, localQ := localQ } := by
  unfold swap
  dsimp only
  split
  next tag _ _ _ _ =>
    obtain ⟨notices, queued, heq, -⟩ := raiseCompletion_step tag (.commitSwapped s.active.other) _
    exact ⟨_, _, _, _, heq⟩
  next =>
    obtain ⟨notices, queued, heq, -⟩ := endBootLoaded_step _
    exact ⟨_, _, _, _, heq⟩
  next => exact ⟨_, _, _, _, rfl⟩

theorem swap_places (s : State) : forwardPlaces (swap s) = forwardPlaces s := by
  obtain ⟨_, _, _, _, heq⟩ := swap_eq s
  rw [heq]
  rfl

theorem swap_flow (s : State) : (swap s).flow = s.flow := by
  obtain ⟨_, _, _, _, heq⟩ := swap_eq s
  rw [heq]

theorem betweenFrames_cases (s : State) : betweenFrames s = swap s ∨ betweenFrames s = s := by
  unfold betweenFrames
  split
  · exact .inl rfl
  · exact .inr rfl

theorem swapIfTarget_cases (f : SampleFrame) (s : State) : swapIfTarget f s = swap s ∨ swapIfTarget f s = s := by
  unfold swapIfTarget
  split
  · split
    · exact .inl rfl
    · exact .inr rfl
  · exact .inr rfl

theorem betweenFrames_places (s : State) : forwardPlaces (betweenFrames s) = forwardPlaces s := by
  obtain h | h := betweenFrames_cases s
  · rw [h, swap_places]
  · rw [h]

theorem swapIfTarget_places (f : SampleFrame) (s : State) : forwardPlaces (swapIfTarget f s) = forwardPlaces s := by
  obtain h | h := swapIfTarget_cases f s
  · rw [h, swap_places]
  · rw [h]

theorem swapIfTarget_flow (f : SampleFrame) (s : State) : (swapIfTarget f s).flow = s.flow := by
  obtain h | h := swapIfTarget_cases f s
  · rw [h, swap_flow]
  · rw [h]

theorem endCommit_places (what : Completion) (s : State) : forwardPlaces (endCommit what s) = forwardPlaces s := by
  unfold endCommit
  dsimp only
  split
  · exact (raiseCompletion_step _ _ _).places
  · rfl

theorem runCancelCommit_places (f : RequestFrame) (s : State) : forwardPlaces (runCancelCommit f s).1 = forwardPlaces s := by
  unfold runCancelCommit
  dsimp only
  split
  · exact endCommit_places _ _
  · rfl

/-! ### The boot, the tests and the store leave the forward places alone -/

theorem endBootEmpty_places (s : State) : forwardPlaces (endBootEmpty s) = forwardPlaces s :=
  (reportBoot_step _ _).places.trans (setShadowBank_places Bank.empty s)

theorem chooseCandidate_places (s : State) : forwardPlaces (chooseCandidate s) = forwardPlaces s := by
  unfold chooseCandidate
  split
  next => rfl
  next =>
    split
    · rfl
    · exact endBootEmpty_places s

theorem endValidate_places (tag : Option Byte) (s : State) : forwardPlaces (endValidate tag s) = forwardPlaces s := by
  have hrecorded (passed : Bool) :
      forwardPlaces (if passed then setShadowBank (recordEmits (shadowBank s)) s else s) = forwardPlaces s := by
    cases passed
    · rfl
    · exact setShadowBank_places _ s
  unfold endValidate
  dsimp only
  split
  · exact (raiseCompletion_step _ _ _).places.trans (hrecorded _)
  · exact hrecorded _

theorem swapIfIdle_arm_places (s : State) : forwardPlaces (swapIfIdle (arm s)) = forwardPlaces s := by
  have harmed : forwardPlaces (arm s) = forwardPlaces s := setShadowBank_places (recordEmits (shadowBank s)) s
  unfold swapIfIdle
  split
  · exact (betweenFrames_places _).trans harmed
  · exact harmed

theorem withBodyRead_places (slot : Fin 4) (read : BodyRead) (s : State) :
    forwardPlaces (withBodyRead slot read s) = forwardPlaces s := by
  cases read <;> rfl

theorem deliverLoad_places (tag : Option Byte) (slot : Fin 4) (b : Bank) (s : State) :
    forwardPlaces (deliverLoad tag slot b s) = forwardPlaces s := by
  have hloaded : forwardPlaces (setShadowBank b (endLoad slot s)) = forwardPlaces s := setShadowBank_places b _
  cases tag with
  | some tag => exact (raiseCompletion_step _ _ _).places.trans hloaded
  | none => exact hloaded

theorem failLoad_places (tag : Option Byte) (slot : Fin 4) (s : State) :
    forwardPlaces (failLoad tag slot s) = forwardPlaces s := by
  cases tag with
  | some tag => exact (raiseCompletion_step _ _ _).places
  | none => exact chooseCandidate_places _

theorem startLocal_places (s : State) : forwardPlaces (startLocal s) = forwardPlaces s := by
  unfold startLocal
  split <;> rfl

/-! ### The commands off the forward path -/

/-- The commands that act on a place of a forward frame, the hard reset among them. -/
def actsOnForward : Instr → Bool
  | .hardReset _ | .forwardFrameAccepted | .intakeSampleFrame | .intakePassingFrame | .waitingFramePlaced | .correctionDone
  | .stalledOutputPlaced | .dFrameStart | .dFrameSent => true
  | _ => false

theorem execTestComplete_places {s t : State} (hrun : s.held = false) (h : execTestComplete s = .next t) :
    forwardPlaces t = forwardPlaces s := by
  refine places_of_unlessHeld ?_ hrun h
  split
  next tag _ => exact endValidate_places tag s
  next =>
    split
    · exact endCommit_places _ s
    · exact swapIfIdle_arm_places s
  next =>
    split
    · exact (chooseCandidate_places _).trans (endCommit_places _ s)
    · exact swapIfIdle_arm_places s
  next => rfl

theorem execLoadComplete_places {read : BodyRead} {s t : State} (hrun : s.held = false) (h : execLoadComplete read s = .next t) :
    forwardPlaces t = forwardPlaces s := by
  refine places_of_unlessHeld ?_ hrun h
  split
  next tag slot _ =>
    dsimp only
    split
    · exact (deliverLoad_places tag slot _ _).trans (withBodyRead_places slot read s)
    · exact (failLoad_places tag slot _).trans (withBodyRead_places slot read s)
  next => rfl

/-- R92: a command that acts on no forward place leaves all of them alone. -/
theorem exec_places {c : Instr} {s t : State} (hoff : actsOnForward c = false) (hrun : s.held = false) (h : exec c s = .next t) :
    forwardPlaces t = forwardPlaces s := by
  cases c with
  | hardReset | forwardFrameAccepted | intakeSampleFrame | intakePassingFrame | waitingFramePlaced | correctionDone
  | stalledOutputPlaced | dFrameStart | dFrameSent => cases hoff
  | hardResetRelease pins =>
    simp only [exec, execHardResetRelease, hrun, Bool.false_and, Bool.false_eq_true, if_false] at h
    cases h
    rfl
  | checkError port =>
    refine places_of_unlessHeld ?_ hrun h
    split
    · exact (setRx_places port _ _).trans (countCheckError_places port s)
    · rfl
  | malformed port symbol =>
    refine places_of_unlessHeld ?_ hrun h
    split
    · exact (setRx_places port _ _).trans (countMalformed_places port s)
    · rfl
  | frameOpens port =>
    refine places_of_unlessHeld ?_ hrun h
    split
    · exact setRx_places port _ s
    · exact (setRx_places port _ _).trans (countMalformed_places port s)
    · exact (setRx_places port _ _).trans (countMalformed_places port s)
  | dataByteAppended port byte =>
    refine places_of_unlessHeld ?_ hrun h
    split
    · rfl
    · split <;> exact setRx_places port _ s
    · rfl
  | requestFrame =>
    refine places_of_unlessHeld ?_ hrun h
    split
    next f _ =>
      have hoffered : forwardPlaces
          (if takesTarget s.address f.target then offerRequest (.request f) (acceptReverse s) else acceptReverse s) =
          forwardPlaces s := by
        split
        · exact offerRequest_places _ _
        · rfl
      dsimp only
      split
      · exact (offerReverse_places _ _).trans hoffered
      · exact hoffered
    next => rfl
  | enumerateFrame =>
    refine places_of_unlessHeld ?_ hrun h
    split
    · split
      · exact offerRequest_places _ _
      · exact offerReverse_places _ _
    · rfl
  | holdFrame | releaseFrame | holdTimerExpiry | refreshTimerExpiry | uFrameStart | uFrameSent =>
    refine places_of_unlessHeld ?_ hrun h
    split <;> rfl
  | commitTimerExpiry =>
    refine places_of_unlessHeld ?_ hrun h
    split
    · exact endCommit_places _ s
    · rfl
  | enumerateTaken =>
    refine places_of_unlessHeld ?_ hrun h
    split
    · dsimp only
      split
      · split <;> exact offerAnswer_places _ _ _ _
      · exact offerAnswer_places _ _ _ _
    · rfl
  | badCode =>
    refine places_of_unlessHeld ?_ hrun h
    split
    · split
      · rfl
      · exact respond_places _ _ _
    · rfl
  | heldResponseEnters | successorEnters =>
    refine places_of_unlessHeld ?_ hrun h
    split
    · split
      · split <;> rfl
      · rfl
    · rfl
  | noticeFormed => exact places_of_unlessHeld (offerNotice_step s).places hrun h
  | identify | readStatus | setLink | restart | releaseAddress | readTable | evaluate | copyActive | validate | storeDirectory
  | storeSave | storeLoad | storeErase | storeSetBoot | storeProtect =>
    exact places_of_unlessHeld (takeRequest_places (fun _ _ => rfl) s) hrun h
  | writeGroup | writeMap | writeCurve | writePoints | clearShadow =>
    exact places_of_unlessHeld (takeRequest_places (fun _ s => setShadowBank_places _ s) s) hrun h
  | readCounters => exact places_of_unlessHeld (takeRequest_places runReadCounters_places s) hrun h
  | commit => exact places_of_unlessHeld (takeRequest_places runCommit_places s) hrun h
  | cancelCommit => exact places_of_unlessHeld (takeRequest_places runCancelCommit_places s) hrun h
  | copyComplete =>
    refine places_of_unlessHeld ?_ hrun h
    split
    · exact (raiseCompletion_step _ _ _).places.trans (setShadowBank_places (activeBank s) s)
    · rfl
  | testComplete => exact execTestComplete_places hrun h
  | saveComplete | eraseComplete | directoryWriteComplete =>
    refine places_of_unlessHeld ?_ hrun h
    split
    · split <;> exact (raiseCompletion_step _ _ _).places
    · rfl
  | loadComplete read => exact execLoadComplete_places hrun h
  | scanComplete =>
    refine places_of_unlessHeld ?_ hrun h
    split
    · split
      · exact chooseCandidate_places _
      · exact (reportBoot_step _ _).places
    · rfl

/-! ### The moves of the line (R92) -/

theorem lineMove_keep {n : Nat} {before after : List ForwardFrame} (h : after = before) : LineMove n before after := .inl h

theorem lineMove_leave (n : Nat) (f : ForwardFrame) (rest : List ForwardFrame) : LineMove n (f :: rest) rest := .inr (.inl rfl)

theorem lineMove_join (n : Nat) (line : List ForwardFrame) (f : ForwardFrame) : LineMove n line (line ++ [f]) :=
  .inr (.inr (.inl ⟨f, rfl⟩))

/-- The frame behind the forward egress queue is discarded. -/
theorem lineMove_discard (egress ingress : List ForwardFrame) (f : ForwardFrame) :
    LineMove egress.length (egress ++ f :: ingress) (egress ++ ingress) :=
  .inr (.inr (.inr (.inl (by simp [List.eraseIdx_append_of_length_le]))))

/-- The Sample frame behind the forward egress queue is replaced by one of its sequence. -/
theorem lineMove_replace (egress ingress : List ForwardFrame) {f g : SampleFrame} (h : g.sequence = f.sequence) :
    LineMove egress.length (egress ++ .sample f :: ingress) (egress ++ .sample g :: ingress) :=
  .inr (.inr (.inr (.inr ⟨f, g, by simp, h, by simp⟩)))

/-! ### The line under the operations of the forward path -/

theorem forwardLine_of_free {s : State} (h : s.intake = .free) : forwardLine s = s.egress ++ s.ingress := by
  simp only [forwardLine, frameAtIntake, h, List.append_nil]

theorem forwardLine_of_waiting {s : State} {f : ForwardFrame} (h : s.intake = .waiting f) :
    forwardLine s = s.egress ++ f :: s.ingress := by
  simp only [forwardLine, frameAtIntake, h, List.append_assoc, List.singleton_append]

theorem forwardLine_of_bound {s : State} {f : SampleFrame} {bank : BankName} (hintake : s.intake = .correcting)
    (hstage : s.stage = .bound f bank) : forwardLine s = s.egress ++ .sample f :: s.ingress := by
  simp only [forwardLine, frameAtIntake, hintake, hstage, List.append_assoc, List.singleton_append]

theorem forwardLine_of_stalled {s : State} {out : SampleFrame} {bank : BankName} (hintake : s.intake = .correcting)
    (hstage : s.stage = .stalled out bank) : forwardLine s = s.egress ++ .sample out :: s.ingress := by
  simp only [forwardLine, frameAtIntake, hintake, hstage, List.append_assoc, List.singleton_append]

/-- R24, R90: a frame passed from a FREE intake stands between the two queues' frames, in the egress queue or WAITING. -/
theorem forwardLine_passUnchanged {s : State} (f : ForwardFrame) (h : s.intake = .free) :
    forwardLine (passUnchanged f s) = s.egress ++ f :: s.ingress := by
  unfold passUnchanged
  split
  · exact (forwardLine_of_free (s := { s with egress := s.egress ++ [f] }) h).trans (List.append_cons ..).symm
  · exact forwardLine_of_waiting rfl

/-- R22: the mode of the group passes, binds or discards the frame. -/
theorem forwardLine_judgeByMode {s : State} (f : SampleFrame) (h : s.intake = .free) :
    forwardLine (judgeByMode f s) = s.egress ++ .sample f :: s.ingress ∨
      forwardLine (judgeByMode f s) = s.egress ++ s.ingress := by
  unfold judgeByMode
  split
  · exact .inl (forwardLine_passUnchanged _ h)
  · exact .inr (forwardLine_of_free h)
  · exact .inl (forwardLine_of_bound rfl rfl)

theorem forwardLine_discardDuplicate (f : SampleFrame) (s : State) :
    forwardLine (discardDuplicate f s) = s.egress ++ s.ingress :=
  (forwardLine_of_places ((betweenFrames_places _).trans (reportSequence_step _ _).places)).trans (forwardLine_of_free rfl)

/-- R40: an output frame takes the place of the frame in the stage, delivered or STALLED. -/
theorem forwardLine_deliver {s : State} (out : SampleFrame) (bank : BankName) (h : s.intake = .correcting) :
    forwardLine (deliver out bank s) = s.egress ++ .sample out :: s.ingress := by
  unfold deliver
  split
  · exact (forwardLine_of_places (betweenFrames_places _)).trans ((forwardLine_of_free rfl).trans (List.append_cons ..).symm)
  · exact forwardLine_of_stalled h rfl

theorem acceptSequence_places (f : SampleFrame) (missing : Nat) (s : State) :
    forwardPlaces (acceptSequence f missing s) = forwardPlaces s := by
  unfold acceptSequence
  dsimp only
  split
  · rfl
  · exact (reportSequence_step _ _).places

/-- R38: a corrected frame keeps the sequence of the frame it replaces. -/
theorem forwardLine_correct_accepted {s : State} (f : SampleFrame) (bank : BankName) (gap : Bool) (missing : Nat)
    (h : s.intake = .correcting) : ∃ out : SampleFrame, out.sequence = f.sequence ∧
      forwardLine (correctFrame f bank gap (acceptSequence f missing s)) = s.egress ++ .sample out :: s.ingress := by
  obtain ⟨hegress, hintake, -, hingress⟩ := forwardPlaces_eq_iff.mp (acceptSequence_places f missing s)
  refine ⟨correctedFrame (bankNamed (acceptSequence f missing s) bank) f gap, rfl, ?_⟩
  rw [← hegress, ← hingress]
  exact forwardLine_deliver _ bank (hintake.trans h)

/-! ### The line under the commands of the forward path -/

theorem offerIngress_line (f : ForwardFrame) (s : State) :
    forwardLine (offerIngress f s) = forwardLine s ++ [f] ∨ forwardLine (offerIngress f s) = forwardLine s := by
  unfold offerIngress
  split
  · exact .inl (List.append_assoc ..).symm
  · exact .inr (forwardLine_of_places (reportOverrun_step _).places)

theorem execForwardFrameAccepted_line {s t : State} (hrun : s.held = false) (h : execForwardFrameAccepted s = .next t) :
    LineMove s.egress.length (forwardLine s) (forwardLine t) := by
  rw [eq_of_unlessHeld hrun h]
  split
  next f _ =>
    obtain hjoined | hdropped := offerIngress_line f { s with uRx := .idle }
    · rw [hjoined]
      exact lineMove_join _ _ f
    · exact lineMove_keep hdropped
  next => exact lineMove_keep rfl

theorem execIntakeSampleFrame_line {s t : State} (hrun : s.held = false) (h : execIntakeSampleFrame s = .next t) :
    LineMove s.egress.length (forwardLine s) (forwardLine t) := by
  rw [eq_of_unlessHeld hrun h]
  split
  next f rest hfree hhead =>
    rw [forwardLine_of_free hfree, hhead]
    dsimp only
    split
    · exact lineMove_keep (forwardLine_passUnchanged _ hfree)
    · obtain ⟨hegress, hintake, -, hingress⟩ := forwardPlaces_eq_iff.mp (swapIfTarget_places f (removeIngressHead rest s))
      have hjudged := forwardLine_judgeByMode f (hintake.trans hfree)
      rw [hegress, hingress] at hjudged
      obtain hkept | hblocked := hjudged
      · exact lineMove_keep hkept
      · rw [hblocked]
        exact lineMove_discard s.egress rest (.sample f)
  next => exact lineMove_keep rfl

theorem execIntakePassingFrame_line {s t : State} (hrun : s.held = false) (h : execIntakePassingFrame s = .next t) :
    LineMove s.egress.length (forwardLine s) (forwardLine t) := by
  rw [eq_of_unlessHeld hrun h]
  refine lineMove_keep ?_
  split
  next hfree hhead => rw [forwardLine_of_free hfree, hhead]; exact forwardLine_passUnchanged _ hfree
  next hfree hhead => rw [forwardLine_of_free hfree, hhead]; exact forwardLine_passUnchanged _ hfree
  next => rfl

theorem execWaitingFramePlaced_line {s t : State} (hrun : s.held = false) (h : execWaitingFramePlaced s = .next t) :
    LineMove s.egress.length (forwardLine s) (forwardLine t) := by
  rw [eq_of_unlessHeld hrun h]
  refine lineMove_keep ?_
  split
  next f hwaiting =>
    split
    · rw [forwardLine_of_waiting hwaiting]
      exact (forwardLine_of_free rfl).trans (List.append_cons ..).symm
    · rfl
  next => rfl

theorem execCorrectionDone_line {s t : State} (hstage : StageFollowsIntake s) (hrun : s.held = false)
    (h : execCorrectionDone s = .next t) : LineMove s.egress.length (forwardLine s) (forwardLine t) := by
  rw [eq_of_unlessHeld hrun h]
  split
  next f bank hbound =>
    have hcorrecting : s.intake = .correcting := hstage.mpr (by simp [hbound])
    have hreplaced : ∀ gap missing, LineMove s.egress.length (s.egress ++ .sample f :: s.ingress)
        (forwardLine (correctFrame f bank gap (acceptSequence f missing s))) := by
      intro gap missing
      obtain ⟨out, hsequence, hline⟩ := forwardLine_correct_accepted f bank gap missing hcorrecting
      rw [hline]
      exact lineMove_replace _ _ hsequence
    rw [forwardLine_of_bound hcorrecting hbound]
    split
    · rw [forwardLine_discardDuplicate]
      exact lineMove_discard _ _ _
    · exact hreplaced false 0
    · exact hreplaced false 0
    · exact hreplaced true _
  next => exact lineMove_keep rfl

theorem execStalledOutputPlaced_line {s t : State} (hstage : StageFollowsIntake s) (hrun : s.held = false)
    (h : execStalledOutputPlaced s = .next t) : LineMove s.egress.length (forwardLine s) (forwardLine t) := by
  rw [eq_of_unlessHeld hrun h]
  refine lineMove_keep ?_
  split
  next out bank hstalled =>
    have hcorrecting : s.intake = .correcting := hstage.mpr (by simp [hstalled])
    split
    · rw [forwardLine_of_stalled hcorrecting hstalled, forwardLine_deliver out bank hcorrecting]
    · rfl
  next => rfl

theorem execDFrameStart_line {s t : State} (hrun : s.held = false) (h : execDFrameStart s = .next t) :
    LineMove s.egress.length (forwardLine s) (forwardLine t) := by
  rw [eq_of_unlessHeld hrun h]
  split
  next =>
    split
    next =>
      unfold startForward
      split
      next => exact lineMove_keep rfl
      next f rest hhead =>
        have hline : forwardLine s = f :: (rest ++ frameAtIntake s ++ s.ingress) := by simp [forwardLine, hhead]
        rw [hline]
        exact lineMove_leave _ f _
    next => exact lineMove_keep (forwardLine_of_places (startLocal_places s))
    next => exact lineMove_keep rfl
  next => exact lineMove_keep rfl

/-- R195: the end of a frame leaves the line as it was, but for the restart that it may begin. -/
theorem execDFrameSent_line {s t : State} (hrun : s.held = false) (h : execDFrameSent s = .next t) :
    forwardLine t = forwardLine s ∨ forwardLine t = [] := by
  rw [eq_of_unlessHeld hrun h]
  split
  next => exact .inl rfl
  next =>
    dsimp only
    split
    · split
      · exact .inr rfl
      · exact .inl rfl
    · exact .inl rfl

/-- Settles O21: each command of the forward path makes one move of the line, and the other commands leave the forward places
alone. -/
theorem forwardOrderIsKept : Obligations.ForwardOrderIsKept := by
  unfold Obligations.ForwardOrderIsKept
  intro c s t hrun hstage hreset h
  cases c with
  | hardReset cause => exact absurd rfl (hreset cause)
  | forwardFrameAccepted => exact .inl (execForwardFrameAccepted_line hrun h)
  | intakeSampleFrame => exact .inl (execIntakeSampleFrame_line hrun h)
  | intakePassingFrame => exact .inl (execIntakePassingFrame_line hrun h)
  | waitingFramePlaced => exact .inl (execWaitingFramePlaced_line hrun h)
  | correctionDone => exact .inl (execCorrectionDone_line hstage hrun h)
  | stalledOutputPlaced => exact .inl (execStalledOutputPlaced_line hstage hrun h)
  | dFrameStart => exact .inl (execDFrameStart_line hrun h)
  | dFrameSent => exact (execDFrameSent_line hrun h).imp lineMove_keep fun hempty => ⟨rfl, hempty⟩
  | _ => exact .inl (lineMove_keep (forwardLine_of_places (exec_places rfl hrun h)))

/-! ### The upstream hold (R101 to R103) -/

theorem outcome_close {port : Port} {rx : Receiver} {bytes : List Byte} {f : Frame} (hrx : rx = .assembling bytes)
    (hjudge : judge port bytes = .accepted f) : outcome port rx .close = some (.accepted f) := by
  rw [hrx, outcome, hjudge]

theorem passUnchanged_ingress (f : ForwardFrame) (s : State) : (passUnchanged f s).ingress = s.ingress := by
  unfold passUnchanged
  split <;> rfl

theorem passUnchanged_flow (f : ForwardFrame) (s : State) : (passUnchanged f s).flow = s.flow := by
  unfold passUnchanged
  split <;> rfl

theorem judgeByMode_ingress (f : SampleFrame) (s : State) : (judgeByMode f s).ingress = s.ingress := by
  unfold judgeByMode
  split
  · exact passUnchanged_ingress _ s
  · rfl
  · rfl

theorem judgeByMode_flow (f : SampleFrame) (s : State) : (judgeByMode f s).flow = s.flow := by
  unfold judgeByMode
  split
  · exact passUnchanged_flow _ s
  · rfl
  · rfl

/-- R87, R101: a frame accepted into a free place joins the ingress queue, and flow control sees the occupancy it makes. -/
theorem execForwardFrameAccepted_of_room {s : State} {bytes : List Byte} {f : ForwardFrame} (hrun : s.held = false)
    (hrx : s.uRx = .assembling bytes) (hjudge : judge .u bytes = .accepted (.forward f)) (hroom : s.ingress.length < 8) :
    ∃ t, execForwardFrameAccepted s = .next t ∧ t.ingress = s.ingress ++ [f] ∧
      t.flow = flowAfterEntry s.flow (s.ingress.length + 1) := by
  refine ⟨_, unlessHeld_of_running _ hrun, ?_⟩
  simp only [outcome_close hrx hjudge, offerIngress, hroom, if_true, and_self]

/-- R22, R103: an intake that takes a Sample frame leaves the rest in the ingress queue, and flow control sees its length. -/
theorem execIntakeSampleFrame_removes {s : State} {f : SampleFrame} {rest : List ForwardFrame} (hrun : s.held = false)
    (hfree : s.intake = .free) (hhead : s.ingress = .sample f :: rest) :
    ∃ t, execIntakeSampleFrame s = .next t ∧ t.ingress = rest ∧ t.flow = flowAfterRemoval s.flow rest.length := by
  refine ⟨_, unlessHeld_of_running _ hrun, ?_⟩
  obtain ⟨-, -, -, hrest⟩ := forwardPlaces_eq_iff.mp (swapIfTarget_places f (removeIngressHead rest s))
  simp only [hfree, hhead]
  cases s.mode with
  | booting => exact ⟨passUnchanged_ingress _ _, passUnchanged_flow _ _⟩
  | running => exact ⟨(judgeByMode_ingress f _).trans hrest, (judgeByMode_flow f _).trans (swapIfTarget_flow f _)⟩

/-- R90, R103: the same of a Response or a Notice frame. -/
theorem execIntakePassingFrame_removes {s : State} {f : ForwardFrame} {rest : List ForwardFrame} (hrun : s.held = false)
    (hfree : s.intake = .free) (hhead : s.ingress = f :: rest) (hpasses : ∀ g, f ≠ .sample g) :
    ∃ t, execIntakePassingFrame s = .next t ∧ t.ingress = rest ∧ t.flow = flowAfterRemoval s.flow rest.length := by
  refine ⟨passUnchanged f (removeIngressHead rest s), ?_, passUnchanged_ingress _ _, passUnchanged_flow _ _⟩
  cases f with
  | sample g => exact absurd rfl (hpasses g)
  | response g => simp only [execIntakePassingFrame, hfree, hhead, unlessHeld_of_running, hrun]
  | notice g => simp only [execIntakePassingFrame, hfree, hhead, unlessHeld_of_running, hrun]

theorem execRefreshTimerExpiry_of_asserted {s : State} {period : Nat} (hrun : s.held = false)
    (hasserted : s.flow.upstream = .asserted) (hrunning : s.flow.refresh = some period) :
    execRefreshTimerExpiry s = .next { s with flow := placeHold s.flow } := by
  simp only [execRefreshTimerExpiry, hasserted, hrunning, unlessHeld_of_running, hrun]

theorem execRefreshTimerExpiry_of_stopped {s : State} (hrun : s.held = false)
    (h : s.flow.upstream = .quiet ∨ s.flow.refresh = none) : execRefreshTimerExpiry s = .next s := by
  obtain hquiet | hstopped := h
  · simp only [execRefreshTimerExpiry, hquiet, unlessHeld_of_running, hrun]
  · cases hupstream : s.flow.upstream <;>
      simp only [execRefreshTimerExpiry, hupstream, hstopped, unlessHeld_of_running, hrun]

/-- Settles O12: entries and removals go through the two occupancy rules of flow control, and no other part of those commands
changes it. -/
theorem upstreamHoldFollowsOccupancy : Obligations.UpstreamHoldFollowsOccupancy := by
  unfold Obligations.UpstreamHoldFollowsOccupancy
  intro s hrun
  refine ⟨fun bytes f hrx hjudge hroom => execForwardFrameAccepted_of_room hrun hrx hjudge hroom, ?_,
    fun period hasserted hrunning => execRefreshTimerExpiry_of_asserted hrun hasserted hrunning,
    execRefreshTimerExpiry_of_stopped hrun⟩
  intro f rest hfree hhead
  cases f with
  | sample g => exact execIntakeSampleFrame_removes hrun hfree hhead
  | response g => exact execIntakePassingFrame_removes hrun hfree hhead nofun
  | notice g => exact execIntakePassingFrame_removes hrun hfree hhead nofun

/-! ### The hold state of port D (R96 to R98) -/

theorem execHoldFrame_of_accepted {s : State} {bytes : List Byte} {duration : Byte} {check : Half} (hrun : s.held = false)
    (hrx : s.dRx = .assembling bytes) (hjudge : judge .d bytes = .accepted (.link (.hold duration check))) :
    execHoldFrame s = .next { acceptReverse s with dTx := { s.dTx with hold := .held duration } } := by
  simp only [execHoldFrame, outcome_close hrx hjudge, unlessHeld_of_running, hrun]

theorem execReleaseFrame_of_accepted {s : State} {bytes : List Byte} {check : Half} (hrun : s.held = false)
    (hrx : s.dRx = .assembling bytes) (hjudge : judge .d bytes = .accepted (.link (.release check))) :
    execReleaseFrame s = .next { acceptReverse s with dTx := { s.dTx with hold := .free } } := by
  simp only [execReleaseFrame, outcome_close hrx hjudge, unlessHeld_of_running, hrun]

theorem execHoldTimerExpiry_of_held {s : State} {duration : Byte} (hrun : s.held = false) (hheld : s.dTx.hold = .held duration) :
    execHoldTimerExpiry s = .next { s with dTx := { s.dTx with hold := .free } } := by
  simp only [execHoldTimerExpiry, hheld, unlessHeld_of_running, hrun]

theorem execHoldTimerExpiry_of_free {s : State} (hrun : s.held = false) (hfree : s.dTx.hold = .free) :
    execHoldTimerExpiry s = .next s := by
  simp only [execHoldTimerExpiry, hfree, unlessHeld_of_running, hrun]

/-- Settles O11: the four events that set the hold state, one by one. -/
theorem holdAndReleaseActOnDTransmitter : Obligations.HoldAndReleaseActOnDTransmitter := by
  unfold Obligations.HoldAndReleaseActOnDTransmitter
  intro s hrun
  exact ⟨fun _ _ _ hrx hjudge => execHoldFrame_of_accepted hrun hrx hjudge,
    fun _ _ hrx hjudge => execReleaseFrame_of_accepted hrun hrx hjudge,
    fun _ hheld => execHoldTimerExpiry_of_held hrun hheld, execHoldTimerExpiry_of_free hrun⟩

end Sys2Proof.Machine

/-! O26: what an Enumerate frame does when the request engine takes it (R115 to R118). -/

namespace Sys2Proof.Machine

/-! ### The answer and the successor offered together (R118, R134) -/

theorem responseRoom_iff (s : State) : responseRoom s = true ↔ Roomy s := by rw [responseRoom_eq, decide_eq_true_iff]

theorem reverseRoom_iff (s : State) : reverseRoom s = true ↔ s.reverseQ.length < 8 := decide_eq_true_iff

/-- R134: an answer without a successor enters the local queue, or is held. -/
theorem offerAnswer_alone (response : ResponseFrame) (s : State) : offerAnswer response none none s = { s with
    localQ := if Roomy s then s.localQ ++ [.response response] else s.localQ
    engine := if Roomy s then .idle else
      .holding { response := if Roomy s then none else some response, successor := none, restart := none } } := by
  simp only [offerAnswer, responseRoom_iff, ite_self]
  by_cases hroomy : Roomy s
  · simp only [if_pos hroomy]; rfl
  · simp only [if_neg hroomy]; rfl

/-- R118: the answer and the successor find their places apart; the engine holds the ones that find none, and is IDLE with
nothing left. -/
theorem offerAnswer_withSuccessor (response : ResponseFrame) (successor : EnumFrame) (s : State) :
    offerAnswer response (some successor) none s = { s with
      localQ := if Roomy s then s.localQ ++ [.response response] else s.localQ
      reverseQ := if s.reverseQ.length < 8 then s.reverseQ ++ [.enumerate successor] else s.reverseQ
      engine := if Roomy s ∧ s.reverseQ.length < 8 then .idle else .holding {
        response := if Roomy s then none else some response
        successor := if s.reverseQ.length < 8 then none else some successor
        restart := none } } := by
  simp only [offerAnswer, responseRoom_iff, reverseRoom_iff]
  by_cases hroomy : Roomy s
  · by_cases hroom : s.reverseQ.length < 8
    · simp only [if_pos hroomy, if_pos hroom, if_pos (And.intro hroomy hroom)]; rfl
    · simp only [if_pos hroomy, if_neg hroom, if_neg (fun h : Roomy s ∧ _ => hroom h.2)]; rfl
  · by_cases hroom : s.reverseQ.length < 8
    · simp only [if_neg hroomy, if_pos hroom, if_neg (fun h : Roomy s ∧ _ => hroomy h.1)]; rfl
    · simp only [if_neg hroomy, if_neg hroom, if_neg (fun h : Roomy s ∧ _ => hroomy h.1)]; rfl

/-! ### What the engine makes of the frame at the head of its queue (R115 to R117) -/

section
variable {s : State} {f : EnumFrame} {rest : List ReverseFrame}

/-- R115: an unaddressed part with an address left takes it before it answers. -/
theorem execEnumerateTaken_of_addressLeft (hrun : s.held = false) (hidle : s.engine = .idle)
    (hhead : s.requestQ = .enumerate f :: rest) (haddress : s.address = 0) {n : Fin 31} (hn : f.next.val = n.val) :
    execEnumerateTaken s =
      let addressed : State := { s with requestQ := rest, address := n }
      .next (offerAnswer (enumerated f .ok (identityRecord addressed) addressed) (some (successorOf f)) none addressed) := by
  have hnext : f.next.val ≠ 31 := by omega
  have htaken : Fin.ofNat 31 f.next.val = n := by simp [hn]
  simp only [execEnumerateTaken, hidle, hhead, haddress, if_true, hnext, if_false, htaken, unlessHeld_of_running, hrun]

/-- R116: next address 31 leaves an unaddressed part without an address; the frame itself is passed on. -/
theorem execEnumerateTaken_of_noAddressLeft (hrun : s.held = false) (hidle : s.engine = .idle)
    (hhead : s.requestQ = .enumerate f :: rest) (haddress : s.address = 0) (hnext : f.next.val = 31) :
    execEnumerateTaken s =
      let taken : State := { s with requestQ := rest }
      .next (offerAnswer (enumerated f .noAddress [] taken) (some f) none taken) := by
  simp only [execEnumerateTaken, hidle, hhead, haddress, if_true, hnext, unlessHeld_of_running, hrun]

/-- R117: an addressed part forwards nothing. -/
theorem execEnumerateTaken_of_addressed (hrun : s.held = false) (hidle : s.engine = .idle)
    (hhead : s.requestQ = .enumerate f :: rest) (haddress : s.address ≠ 0) :
    execEnumerateTaken s =
      let taken : State := { s with requestQ := rest }
      .next (offerAnswer (enumerated f .state [] taken) none none taken) := by
  simp only [execEnumerateTaken, hidle, hhead, haddress, if_false, unlessHeld_of_running, hrun]

end

/-- R115: the successor holds the next address after the one taken. -/
theorem successorOf_eq_buildEnum {f : EnumFrame} {n : Nat} {m : Fin 32} (hn : f.next.val = n) (hm : m.val = n + 1) :
    successorOf f = buildEnum m f.tag := by
  have hnext : Fin.ofNat 32 (f.next.val + 1) = m := by simp [hn, ← hm]
  rw [successorOf, hnext]

/-- R80: the last byte of the identity record is the mode. -/
theorem identityRecord_eq (s : State) : identityRecord s =
    [0x16, 0x16, 0x01, 16, 16, 64, 32, 0x01, 0x00, 4, byteOf s.address, if s.mode = .booting then 0x00 else 0x01] := by
  have hmode : s.mode.code = if s.mode = .booting then 0x00 else 0x01 := by cases s.mode <;> rfl
  rw [identityRecord, hmode, addressByte]

/-- Settles O26: which answer and which successor each case offers, and where the two find their places. -/
theorem enumerateGivesAddress : Obligations.EnumerateGivesAddress := by
  unfold Obligations.EnumerateGivesAddress
  intro s f rest hrun hidle hhead
  refine ⟨fun n m haddress _ hn hm => ?addressLeft, fun haddress hnext => ?noAddressLeft, fun haddress => ?addressed⟩
  case addressLeft =>
    refine (execEnumerateTaken_of_addressLeft hrun hidle hhead haddress hn).trans ?_
    simp only [offerAnswer_withSuccessor, successorOf_eq_buildEnum hn hm, identityRecord_eq, reduceCtorEq, false_or]
    rfl
  case noAddressLeft =>
    refine (execEnumerateTaken_of_noAddressLeft hrun hidle hhead haddress hnext).trans ?_
    simp only [offerAnswer_withSuccessor, enumerated, addressByte, haddress, reduceCtorEq, false_or]
    rfl
  case addressed =>
    refine (execEnumerateTaken_of_addressed hrun hidle hhead haddress).trans ?_
    simp only [offerAnswer_alone, true_or, and_true, ite_self]
    rfl

end Sys2Proof.Machine

/-! O52 to O60: every command is a chain of moves, each of one thing that the part does; an invariant that every move keeps is kept by
every step. -/

namespace Sys2Proof.Machine

/-! ### The moves -/

/-- What the bank controller, the store and the boot do (chapters 3, 9 and 10), with its occasion. -/
inductive ControlMove (s : State) : State → Prop where
  -- banks (chapter 3)
  | write (b : Bank) (heditable : s.shadow = .editable) (hcurves : (shadowBank s).wellFormed → b.wellFormed) :
      ControlMove s (setShadowBank b s)
  | copy (tag : Byte) (heditable : s.shadow = .editable) (hmode : s.mode = .running) : ControlMove s { s with shadow := .copying tag }
  | copied {tag : Byte} (hcopying : s.shadow = .copying tag) :
      ControlMove s { setShadowBank (activeBank s) s with shadow := .editable }
  | validate (tag : Byte) (heditable : s.shadow = .editable) (hmode : s.mode = .running) :
      ControlMove s { s with shadow := .validating .validate (some tag) }
  | validated {tag : Option Byte} (hvalidating : s.shadow = .validating .validate tag) :
      ControlMove s { s with shadow := .editable }
  | record {tag : Option Byte} (hvalidating : s.shadow = .validating .validate tag) :
      ControlMove s (setShadowBank (recordEmits (shadowBank s)) s)
  | commit (tag : Byte) (mode : CommitMode) (timeout : Half) (heditable : s.shadow = .editable) (hmode : s.mode = .running) :
      ControlMove s { s with
        shadow := .validating .commit (some tag)
        commit := some { origin := .request, tag := some tag, mode := mode, timeout := timeout, timer := false } }
  | endCommit (hcommit : s.shadow = .armed ∨ ∃ tag, s.shadow = .validating .commit tag) :
      ControlMove s { s with shadow := .editable, commit := none }
  | arm {purpose : Purpose} {tag : Option Byte} (hvalidating : s.shadow = .validating purpose tag)
      (hpurpose : purpose ≠ .validate) (hpassed : testBank (shadowBank s) = none)
      (hlater : s.stage ≠ .idle ∨ ∀ r, s.commit = some r → r.mode ≠ .now) : ControlMove s (arm s)
  | armNow {purpose : Purpose} {tag : Option Byte} (hvalidating : s.shadow = .validating purpose tag)
      (hpurpose : purpose ≠ .validate) (hpassed : testBank (shadowBank s) = none) (hidle : s.stage = .idle) :
      ControlMove s (swap (arm s))
  | swap (harmed : s.shadow = .armed) (hbetween : s.stage = .idle ∨ s.intake = .free) : ControlMove s (swap s)
  -- the store and the boot (chapters 9 and 10)
  | bootTestFailed {tag : Option Byte} (fault : TestFault) (hvalidating : s.shadow = .validating .boot tag) :
      ControlMove s (chooseCandidate (Machine.endCommit (.commitInvalid fault) s))
  | save (f : RequestFrame) (hop : s.store.op = none) (hmode : s.mode = .running)
      (hunprotected : s.store.view.setting.mask.getLsbD (paramFin 4 f.params 1).val = false)
      (hgeneration : highestGeneration s.store.table ≠ 0xFFFFFFFF) : ControlMove s (runStoreSave f s).1
  | load (tag : Byte) (slot : Fin 4) (hop : s.store.op = none) (hmode : s.mode = .running) (heditable : s.shadow = .editable) :
      ControlMove s { s with shadow := .loading, store := { s.store with op := some (.load (some tag) slot) } }
  | erase (f : RequestFrame) (hop : s.store.op = none) (hmode : s.mode = .running)
      (hunprotected : s.store.view.setting.mask.getLsbD (paramFin 4 f.params 0).val = false) : ControlMove s (runStoreErase f s).1
  | dirWrite (f : RequestFrame) (d : DirSetting) (hop : s.store.op = none) (hmode : s.mode = .running) :
      ControlMove s (beginDirWrite f d s)
  | saved {tag : Byte} {slot : Fin 4} {generation : Word} {label : Vector Byte 8} (crc : Word) (body : Option (List Byte))
      (hop : s.store.op = some (.save tag slot generation label)) :
      ControlMove s (storeIdle (setEntry slot (.valid { generation := generation, label := label, length := 1584 })
        (setNvSlot slot { header := .valid { generation := generation, label := label, length := 1584 } crc, body := body } s)))
  | saveFailed {tag : Byte} {slot : Fin 4} {generation : Word} {label : Vector Byte 8} (body : Option (List Byte))
      (hop : s.store.op = some (.save tag slot generation label)) :
      ControlMove s (storeIdle (setNvSlot slot { header := .incomplete, body := body } s))
  | erased {tag : Byte} {slot : Fin 4} (hop : s.store.op = some (.erase tag slot)) :
      ControlMove s (storeIdle (setEntry slot .empty (setNvSlot slot { header := .erased, body := none } s)))
  | eraseFailed {tag : Byte} {slot : Fin 4} (body : Option (List Byte)) (hop : s.store.op = some (.erase tag slot)) :
      ControlMove s (storeIdle (setNvSlot slot { header := .incomplete, body := body } s))
  | dirWritten {tag : Byte} {d : DirSetting} {target : CopyName} {sequence : Half} (copy : DirCopy) (view : DirView)
      (hop : s.store.op = some (.dirWrite tag d target sequence)) :
      ControlMove s { s with nv := s.nv.setCopy target copy, store := { s.store with op := none, view := view } }
  | bodyRead (slot : Fin 4) (body : Option (List Byte)) : ControlMove s (setNvSlot slot { s.nv.slots[slot] with body := body } s)
  | loaded {tag : Byte} {slot : Fin 4} {b : Bank} (hop : s.store.op = some (.load (some tag) slot)) (hcurves : b.wellFormed) :
      ControlMove s (setShadowBank b (endLoad slot s))
  | loadFailed {tag : Byte} {slot : Fin 4} (hop : s.store.op = some (.load (some tag) slot)) :
      ControlMove s (setEntry slot (damagedEntry s.store.table[slot]) (endLoad slot s))
  | bootLoaded {slot : Fin 4} {b : Bank} (hop : s.store.op = some (.load none slot)) (hcurves : b.wellFormed) :
      ControlMove s (startBootTest (setShadowBank b (endLoad slot s)))
  | bootLoadFailed {slot : Fin 4} (hop : s.store.op = some (.load none slot)) :
      ControlMove s (chooseCandidate (setEntry slot (damagedEntry s.store.table[slot]) (endLoad slot s)))
  | bootScanned (hop : s.store.op = some .scan) (hboot : s.boot.isSome = true) : ControlMove s (chooseCandidate (scanned s))
  | keptScanned (hop : s.store.op = some .scan) (hboot : s.boot = none) : ControlMove s (reportBoot .kept (scanned s))

/-- One thing that the part does, with its occasion. A command does one of them or a few, one after the other; the notices that a move
raises are moves of their own where the model raises them apart. The hard reset and its release stand apart (`exec_cases`). -/
inductive Move (s : State) : State → Prop where
  /-- What no invariant reads: the pins, the trackers and the tables of counters, port U, the settings and the free values. -/
  | other {pins trackers slotCounts groupCounts uTx setting slot hold lastServed lane address freeCount}
      {uCheckErr uMalformed uOverrun dLocal rAccepted rBad rOverrun reqDropped : Word} :
      Move s { s with
        pins := pins, trackers := trackers, slotCounts := slotCounts, groupCounts := groupCounts, uTx := uTx
        flow := { s.flow with setting := setting, slot := slot }
        dTx := { s.dTx with hold := hold, lastServed := lastServed, lane := lane }
        address := address, freeCount := freeCount
        counters := { s.counters with
          uCheckErr := uCheckErr, uMalformed := uMalformed, uOverrun := uOverrun, dLocal := dLocal, rAccepted := rAccepted
          rBad := rBad, rOverrun := rOverrun, reqDropped := reqDropped } }
  -- the restart (chapter 10)
  | restart {form : RestartForm} {f : DFrame} (hengine : s.engine = .restarting form) (hsend : s.dTx.send = .sending f)
      (hresponse : isRestartResponse f = true) :
      Move s (beginRestart form { s with dTx := { s.dTx with send := .ready, lane := .idle } })
  -- the forward path (chapters 2, 4 and 5)
  | receive (port : Port) (rx : Receiver) (hbounded : rx.bounded = true) : Move s (setRx port rx s)
  | join (f : ForwardFrame) (hroom : s.ingress.length < 8) : Move s { s with
      ingress := s.ingress ++ [f]
      counters := { s.counters with uAccepted := s.counters.uAccepted + 1 }
      flow := flowAfterEntry s.flow (s.ingress.length + 1) }
  | pass {f : ForwardFrame} {rest : List ForwardFrame} (hfree : s.intake = .free) (hhead : s.ingress = f :: rest) :
      Move s (passUnchanged f (removeIngressHead rest s))
  | block {f : ForwardFrame} {rest : List ForwardFrame} (hfree : s.intake = .free) (hhead : s.ingress = f :: rest) :
      Move s { removeIngressHead rest s with counters := { s.counters with blocked := s.counters.blocked + 1 } }
  | bind {f : SampleFrame} {rest : List ForwardFrame} (hfree : s.intake = .free) (hhead : s.ingress = .sample f :: rest)
      (hmode : s.mode = .running) (hprocess : modeOf (activeBank s) f.group = .process) :
      Move s { removeIngressHead rest s with intake := .correcting, stage := .bound f s.active }
  | place {f : ForwardFrame} (hwaiting : s.intake = .waiting f) (hroom : s.egress.length < 8) :
      Move s { s with egress := s.egress ++ [f], intake := .free }
  | discard {f : SampleFrame} {bank : BankName} (hbound : s.stage = .bound f bank) : Move s { s with
      stage := .idle, intake := .free, counters := { s.counters with duplicates := s.counters.duplicates + 1 } }
  | deliver (out : SampleFrame) (hbusy : s.stage ≠ .idle) (hroom : s.egress.length < 8) :
      Move s { s with egress := s.egress ++ [.sample out], stage := .idle, intake := .free }
  | stall (out : SampleFrame) {f : SampleFrame} {bank : BankName} (hbound : s.stage = .bound f bank) :
      Move s { s with stage := .stalled out bank }
  | refresh (hasserted : s.flow.upstream = .asserted) : Move s { s with flow := placeHold s.flow }
  | startForward (hready : s.dTx.send = .ready) : Move s (startForward s)
  | startLocal (hready : s.dTx.send = .ready) : Move s (startLocal s)
  | sent {f : DFrame} (hsend : s.dTx.send = .sending f)
      (hother : ∀ form, s.engine = .restarting form → isRestartResponse f = false) :
      Move s { s with dTx := { s.dTx with send := .ready, lane := .idle } }
  -- the reverse path and the request engine (chapters 6 and 7)
  | queueRequest (f : ReverseFrame) (hroom : s.requestQ.length < 4) : Move s { s with requestQ := s.requestQ ++ [f] }
  | queueReverse (f : ReverseFrame) (hroom : s.reverseQ.length < 8) : Move s { s with reverseQ := s.reverseQ ++ [f] }
  | unqueueReverse {f : ReverseFrame} {rest : List ReverseFrame} (hhead : s.reverseQ = f :: rest) :
      Move s { s with reverseQ := rest }
  | take {f : ReverseFrame} {rest : List ReverseFrame} (hhead : s.requestQ = f :: rest) : Move s { s with requestQ := rest }
  | answer (response : ResponseFrame) (successor : Option EnumFrame) (restart : Option RestartForm) (hidle : s.engine = .idle)
      (hrestart : restart.isSome = isRestartResponse (.ofLocal (.response response)))
      (halone : restart.isSome = true → successor = none) : Move s (offerAnswer response successor restart s)
  | responseEnters {h : Held} {r : ResponseFrame} (hholding : s.engine = .holding h) (hresponse : h.response = some r)
      (hroom : s.localQ.length < 4) :
      Move s { pushLocal (.response r) s with engine := engineHolding { h with response := none } }
  | successorEnters {h : Held} {e : EnumFrame} (hholding : s.engine = .holding h) (hsuccessor : h.successor = some e)
      (hroom : s.reverseQ.length < 8) :
      Move s { s with reverseQ := s.reverseQ ++ [.enumerate e], engine := engineHolding { h with successor := none } }
  -- notices (chapter 8)
  | form : Move s (offerNotice s)
  | raise (tag : Byte) (what : Completion) : Move s (raiseCompletion tag what s)
  | overrun : Move s (reportOverrun s)
  | sequence (g : Fin 16) : Move s (reportSequence g s)
  | setMask (mask : BitVec 3) : Move s { s with notices := s.notices.setMask mask }
  -- banks, store and boot
  | control {t : State} (h : ControlMove s t) : Move s t

/-- Moves one after the other. -/
abbrev Chain : State → State → Prop := Relation.ReflTransGen Move

theorem Chain.first {s t u : State} (h : Move s t) (hrest : Chain t u) : Chain s u := .head h hrest

theorem Chain.last {s t u : State} (h : Chain s t) (hlast : Move t u) : Chain s u := .tail h hlast

theorem Chain.keeps {P : State → Prop} (hmove : ∀ s t, P s → Move s t → P t) {s t : State} (hs : P s) (h : Chain s t) : P t := by
  induction h with
  | refl => exact hs
  | tail _ hlast ih => exact hmove _ _ ih hlast

end Sys2Proof.Machine

namespace Sys2Proof.Machine

/-! ### Notices and the ingress queue do not touch each other -/

/-- R60: the effects of a swap as the model and as the statements say them. -/
theorem afterSwap_eq (s : State) : afterSwap s = { s with
    active := s.active.other, shadow := .editable, commit := none
    slotCounts := Vector.replicate 64 { sat := 0, range := 0 }
    trackers := swapTrackers (activeBank s) (shadowBank s) s.trackers } := by
  have trackers : (afterSwap s).trackers = swapTrackers (activeBank s) (shadowBank s) s.trackers := by
    refine Vector.ext fun i hi => ?_
    have hmodes (n : BankName) (g : Fin 16) : (modeOf s.bankA g = .process ↔ modeOf s.bankB g = .process) ↔
        ((modeOf (bankNamed s n) g == .process) == (modeOf (bankNamed s n.other) g == .process)) = true := by
      by_cases ha : modeOf s.bankA g = .process <;> by_cases hb : modeOf s.bankB g = .process <;>
        cases n <;> simp [bankNamed, BankName.other, ha, hb]
    simp only [afterSwap, swapTrackers, Vector.getElem_ofFn]
    exact if_congr (hmodes s.active ⟨i, hi⟩) rfl rfl
  rw [← trackers]
  rfl

/-- R60: a swap has the effects of R60, and then reports what it ends. -/
theorem swap_eq_afterSwap (s : State) : swap s =
    match s.commit with
    | some { origin := .request, tag := some tag, .. } => raiseCompletion tag (.commitSwapped s.active.other) (afterSwap s)
    | some { origin := .boot, .. } => endBootLoaded (afterSwap s)
    | _ => afterSwap s := by
  simp only [afterSwap_eq]
  rfl

theorem formNotice_removeIngressHead (k : NoticeKind) (rest : List ForwardFrame) (s : State) :
    formNotice k (removeIngressHead rest s) = removeIngressHead rest (formNotice k s) := by
  cases k with
  | completion k =>
    simp only [formNotice, formCompletion, removeIngressHead_notices]
    cases (s.notices.completions[k.index]).pending <;> rfl
  | unsolicited k => cases k <;> rfl

theorem offerNotice_removeIngressHead (rest : List ForwardFrame) (s : State) :
    offerNotice (removeIngressHead rest s) = removeIngressHead rest (offerNotice s) := by
  by_cases room : s.localQ.length < 4
  · cases h : s.notices.firstPending with
    | none => rw [offerNotice_of_none h, offerNotice_of_none (s := removeIngressHead rest s) h]
    | some k =>
      rw [offerNotice_of_room room h, offerNotice_of_room (s := removeIngressHead rest s) room h, formNotice_removeIngressHead]
  · have full := Nat.not_lt.1 room
    rw [offerNotice_of_full full, offerNotice_of_full (s := removeIngressHead rest s) full]

theorem raiseCompletion_removeIngressHead (tag : Byte) (what : Completion) (rest : List ForwardFrame) (s : State) :
    raiseCompletion tag what (removeIngressHead rest s) = removeIngressHead rest (raiseCompletion tag what s) := by
  simp only [raiseCompletion, removeIngressHead_notices]
  cases (s.notices.completions[what.kind.index]).pending with
  | none => exact offerNotice_removeIngressHead rest { s with notices := _ }
  | some n => rfl

theorem reportBoot_removeIngressHead (o : BootOutcome) (rest : List ForwardFrame) (s : State) :
    reportBoot o (removeIngressHead rest s) = removeIngressHead rest (reportBoot o s) := by
  cases h : s.notices.enabled .bootDone <;> simp only [reportBoot, removeIngressHead_notices, h, if_true, if_false, Bool.false_eq_true]
  case true => exact offerNotice_removeIngressHead rest { s with notices := _ }

theorem endBootLoaded_removeIngressHead (rest : List ForwardFrame) (s : State) :
    endBootLoaded (removeIngressHead rest s) = removeIngressHead rest (endBootLoaded s) := by
  have hended (o : BootOutcome) := reportBoot_removeIngressHead o rest { s with mode := .running, boot := none }
  cases h : s.boot with
  | none => simp only [endBootLoaded, removeIngressHead_boot, h]; rfl
  | some r =>
    obtain ⟨phase, _ | ⟨slot, generation⟩, tried⟩ := r
    · simp only [endBootLoaded, removeIngressHead_boot, h]; rfl
    · simp only [endBootLoaded, removeIngressHead_boot, h]; exact hended _

theorem swap_removeIngressHead (rest : List ForwardFrame) (s : State) :
    swap (removeIngressHead rest s) = removeIngressHead rest (swap s) := by
  have heffects : afterSwap (removeIngressHead rest s) = removeIngressHead rest (afterSwap s) := rfl
  simp only [swap_eq_afterSwap, heffects, removeIngressHead_commit, removeIngressHead_active]
  rcases s.commit with _ | ⟨_ | _, _ | tag, _, _, _⟩
  · rfl
  · rfl
  · exact raiseCompletion_removeIngressHead ..
  · exact endBootLoaded_removeIngressHead ..
  · exact endBootLoaded_removeIngressHead ..

/-- R59: the swap at the target and the removal of the frame from the ingress queue do not touch each other. -/
theorem swapIfTarget_removeIngressHead (f : SampleFrame) (rest : List ForwardFrame) (s : State) :
    swapIfTarget f (removeIngressHead rest s) = removeIngressHead rest (swapIfTarget f s) := by
  obtain ⟨h, h'⟩ | ⟨h, h'⟩ : (swapIfTarget f s = swap s ∧
      swapIfTarget f (removeIngressHead rest s) = swap (removeIngressHead rest s)) ∨
      (swapIfTarget f s = s ∧ swapIfTarget f (removeIngressHead rest s) = removeIngressHead rest s) := by
    unfold swapIfTarget
    simp only [removeIngressHead_shadow, removeIngressHead_commit]
    cases s.shadow <;> rcases s.commit with _ | ⟨_, _, _ | ⟨group, sequence⟩, _, _⟩ <;> try exact .inr ⟨rfl, rfl⟩
    by_cases htarget : f.group = group ∧ f.sequence = sequence
    · exact .inl ⟨if_pos htarget, if_pos htarget⟩
    · exact .inr ⟨if_neg htarget, if_neg htarget⟩
  · rw [h, h', swap_removeIngressHead]
  · rw [h, h']

/-! ### Chains of the shared operations -/

theorem betweenFrames_chain {s : State} (hidle : s.stage = .idle) : Chain s (betweenFrames s) := by
  unfold betweenFrames
  split
  next harmed _ => exact .single (.control (.swap harmed (.inl hidle)))
  next => exact .refl

theorem swapIfTarget_chain (f : SampleFrame) {s : State} (hfree : s.intake = .free) : Chain s (swapIfTarget f s) := by
  unfold swapIfTarget
  split
  next harmed _ =>
    split
    · exact .single (.control (.swap harmed (.inr hfree)))
    · exact .refl
  next => exact .refl

theorem endCommit_chain (what : Completion) {s : State}
    (hcommit : s.shadow = .armed ∨ ∃ tag, s.shadow = .validating .commit tag) : Chain s (endCommit what s) := by
  unfold endCommit
  dsimp only
  split
  · exact .first (.control (.endCommit hcommit)) (.single (.raise _ _))
  · exact .single (.control (.endCommit hcommit))

/-- R57, R58: a shadow that has passed its test is ARMED, and swapped at once when its commit is in mode NOW and the stage IDLE. -/
theorem swapIfIdle_arm_chain {s : State} {purpose : Purpose} {tag : Option Byte} (hvalidating : s.shadow = .validating purpose tag)
    (hpurpose : purpose ≠ .validate) (hpassed : testBank (shadowBank s) = none) : Chain s (swapIfIdle (arm s)) := by
  have hstage : (arm s).stage = s.stage := setShadowBank_stage _ _
  unfold swapIfIdle
  split
  next hidle =>
    rw [hstage] at hidle
    unfold betweenFrames
    split
    · exact .single (.control (.armNow hvalidating hpurpose hpassed hidle))
    · next hnot =>
      refine .single (.control (.arm hvalidating hpurpose hpassed (.inr fun r hr hnow => ?_)))
      obtain ⟨origin, rtag, mode, timeout, timer⟩ := r
      obtain rfl : mode = .now := hnow
      exact hnot origin rtag timeout (decide (timeout ≠ 0)) rfl (by simp [arm, hr])
  next hbusy => exact .single (.control (.arm hvalidating hpurpose hpassed (.inl fun hidle => hbusy (hstage.trans hidle))))

theorem endValidate_chain {s : State} {tag : Option Byte} (hvalidating : s.shadow = .validating .validate tag) :
    Chain s (endValidate tag s) := by
  have hended : Chain s { if (testBank (shadowBank s)).isNone then setShadowBank (recordEmits (shadowBank s)) s else s with
      shadow := .editable } := by
    split
    · exact .first (.control (.record hvalidating)) (.single (.control (.validated ((setShadowBank_shadow _ _).trans hvalidating))))
    · exact .single (.control (.validated hvalidating))
  unfold endValidate
  dsimp only
  split
  · exact hended.last (.raise _ _)
  · exact hended

end Sys2Proof.Machine

namespace Sys2Proof.Machine

/-! ### Requests are chains (R128, R133) -/

/-- R128: a request passes when each of the steps 2 to 6 passes. -/
theorem judgeRequest_eq_none {r : RequestRules} {f : RequestFrame} {s : State} : judgeRequest r f s = none ↔
    r.lengthOk f.params.length = true ∧ (s.mode = .booting → r.bootOk f.params = true) ∧ r.inRange f.params = true ∧
      r.owner f.params s = none ∧ r.conditions f.params s = none := by
  unfold judgeRequest
  cases r.lengthOk f.params.length <;> cases s.mode <;> cases r.bootOk f.params <;> cases r.inRange f.params <;>
    simp [Option.or_eq_none_iff]

/-- R130: a request that has no exception for BOOTING passes while RUNNING alone. -/
theorem running_of_judged {r : RequestRules} {f : RequestFrame} {s : State} (hboot : r.bootOk = notInBoot)
    (h : judgeRequest r f s = none) : s.mode = .running := by
  obtain ⟨-, hmode, -⟩ := judgeRequest_eq_none.mp h
  cases hm : s.mode with
  | running => rfl
  | booting => simp [hboot, notInBoot, hm] at hmode

theorem owner_of_judged {r : RequestRules} {f : RequestFrame} {s : State} (h : judgeRequest r f s = none) :
    r.owner f.params s = none := (judgeRequest_eq_none.mp h).2.2.2.1

theorem conditions_of_judged {r : RequestRules} {f : RequestFrame} {s : State} (h : judgeRequest r f s = none) :
    r.conditions f.params s = none := (judgeRequest_eq_none.mp h).2.2.2.2

theorem needsEditable_eq_none (p : List Byte) {s : State} : needsEditable p s = none ↔ s.shadow = .editable := by
  simp [needsEditable]

theorem needsStoreIdle_eq_none (p : List Byte) {s : State} : needsStoreIdle p s = none ↔ s.store.op = none := by
  simp [needsStoreIdle]

theorem editable_of_judged {r : RequestRules} {f : RequestFrame} {s : State} (howner : r.owner = needsEditable)
    (h : judgeRequest r f s = none) : s.shadow = .editable :=
  (needsEditable_eq_none f.params).mp (howner ▸ owner_of_judged h)

theorem storeIdle_of_judged {r : RequestRules} {f : RequestFrame} {s : State} (howner : r.owner = needsStoreIdle)
    (h : judgeRequest r f s = none) : s.store.op = none :=
  (needsStoreIdle_eq_none f.params).mp (howner ▸ owner_of_judged h)

theorem needsCommit_eq_none (p : List Byte) {s : State} :
    needsCommit p s = none ↔ s.shadow = .armed ∨ ∃ tag, s.shadow = .validating .commit tag := by
  unfold needsCommit
  rcases s.shadow with _ | tag | _ | ⟨purpose, tag⟩ | _ <;> try cases purpose
  all_goals simp

theorem needsUnprotected_eq_none {slot : Fin 4} {s : State} :
    needsUnprotected slot s = none ↔ s.store.view.setting.mask.getLsbD slot.val = false := by
  simp [needsUnprotected]

theorem needsGeneration_eq_none {s : State} :
    needsGeneration s = none ↔ highestGeneration s.store.table ≠ 0xFFFFFFFF := by
  simp [needsGeneration]

/-- R140: the result codes are distinct, so only OK reads as OK. -/
theorem resultCode_eq_ok {r : Result} : (r.code == Result.ok.code) = decide (r = .ok) := by cases r <;> rfl

/-- R133, R140: an answer keeps the form of a restart exactly when it is the OK response to a RESTART. -/
theorem respond_chain {f : RequestFrame} {a : Answer} {s : State} (hidle : s.engine = .idle)
    (hrestart : a.restart.isSome = (f.code == 0x04 && decide (a.result = .ok))) : Chain s (respond f a s) := by
  have hanswer : Chain s (offerAnswer (responseTo f a s) none a.restart s) := by
    refine .single (.answer _ _ _ hidle ?_ fun _ => rfl)
    rw [hrestart, ← resultCode_eq_ok]
    rfl
  unfold respond
  dsimp only
  split
  · exact hanswer.last (.raise _ _)
  · exact hanswer

/-- What a request's meaning is for the chains: moves that leave the engine IDLE, and an answer as `respond_chain` asks. -/
def RunsAsChain (r : RequestRules) (run : RequestFrame → State → State × Answer) : Prop :=
  ∀ f s, s.engine = .idle → judgeRequest r f s = none → Chain s (run f s).1 ∧ (run f s).1.engine = .idle ∧
    (run f s).2.restart.isSome = (r.code == 0x04 && decide ((run f s).2.result = .ok))

/-- R128: a request that is not RESTART, or that no owner refuses, is a chain. -/
theorem takeRequest_chain {r : RequestRules} {run : RequestFrame → State → State × Answer} (hrun : RunsAsChain r run)
    (hrefused : r.code ≠ 0x04 ∨ r.owner = noRefusal ∧ r.conditions = noRefusal) (s : State) :
    Chain s (takeRequest r run s) := by
  unfold takeRequest
  split
  next f rest hidle hhead =>
    split
    next hcode =>
      refine .first (.take hhead) ?_
      dsimp only
      split
      next refusal hjudged =>
        refine respond_chain hidle ?_
        obtain hcode' | ⟨howner, hconditions⟩ := hrefused
        · simp only [plainAnswer, hcode, beq_false_of_ne hcode', Bool.false_and, Option.isSome_none]
        · have hnotOk : refusal ≠ .ok := by
            rintro rfl
            simp only [judgeRequest, howner, hconditions, noRefusal, Option.or_none] at hjudged
            split at hjudged <;> try cases hjudged
            split at hjudged <;> try cases hjudged
            split at hjudged <;> cases hjudged
          simp [plainAnswer, hnotOk]
      next hjudged =>
        obtain ⟨hchain, hengine, hanswer⟩ := hrun f { s with requestQ := rest } hidle hjudged
        exact hchain.trans (respond_chain hengine (hcode ▸ hanswer))
    next => exact .refl
  next => exact .refl

/-- A read: nothing changes, and the answer keeps no form of a restart. -/
theorem runsAsChain_of_read {r : RequestRules} {data : State → RequestFrame → List Byte} (hcode : r.code ≠ 0x04) :
    RunsAsChain r (fun f t => (t, dataAnswer (data t f))) :=
  fun f s hidle _ => ⟨.refl, hidle, by simp only [dataAnswer, beq_false_of_ne hcode, Bool.false_and, Option.isSome_none]⟩

/-- A request that one move carries out. -/
theorem runsAsChain_of_move {r : RequestRules} {run : RequestFrame → State → State × Answer} (hcode : r.code ≠ 0x04)
    (hmove : ∀ f s, judgeRequest r f s = none → Move s (run f s).1) (hengine : ∀ f s, (run f s).1.engine = s.engine)
    (hanswer : ∀ f s, (run f s).2.restart = none) : RunsAsChain r run :=
  fun f s hidle hjudged => ⟨.single (hmove f s hjudged), (hengine f s).trans hidle,
    by simp only [hanswer, beq_false_of_ne hcode, Bool.false_and, Option.isSome_none]⟩

theorem runsAsChain_of_control {r : RequestRules} {run : RequestFrame → State → State × Answer} (hcode : r.code ≠ 0x04)
    (hmove : ∀ f s, judgeRequest r f s = none → ControlMove s (run f s).1) (hengine : ∀ f s, (run f s).1.engine = s.engine)
    (hanswer : ∀ f s, (run f s).2.restart = none) : RunsAsChain r run :=
  runsAsChain_of_move hcode (fun f s hjudged => .control (hmove f s hjudged)) hengine hanswer

/-! ### The curve spans that writes and loads keep (R9) -/

theorem wellFormed_empty : Bank.empty.wellFormed := by
  intro i c h
  simp [Bank.empty] at h

theorem wellFormed_of_curves {b b' : Bank} (h : b'.curves = b.curves) (hb : b.wellFormed) : b'.wellFormed := by
  intro i c hc
  rw [h] at hc
  exact hb i c hc

/-- R145: what a curve entry reads as has its ranges. -/
theorem wellFormed_of_curveOf {bytes : List Byte} {c : CurveDef} (h : curveOf bytes = some (some c)) : c.wellFormed := by
  unfold curveOf at h
  split at h
  next d start count policy =>
    split at h
    · simp at h
    · split at h
      · simp only [finOf, Option.bind_eq_bind, Option.bind_eq_some_iff, Option.dite_none_right_eq_some,
          Option.some.injEq] at h
        obtain ⟨p, -, st, ⟨_, rfl⟩, h⟩ := h
        split at h
        next hranges => cases h; exact hranges
        next => cases h
      · cases h
  next => cases h

theorem wellFormed_writtenGroup (p : List Byte) {b : Bank} (hb : b.wellFormed) : (writtenGroup p b).wellFormed := by
  refine wellFormed_of_curves ?_ hb
  unfold writtenGroup
  split <;> rfl

theorem wellFormed_writtenMap (p : List Byte) {b : Bank} (hb : b.wellFormed) : (writtenMap p b).wellFormed := by
  refine wellFormed_of_curves ?_ hb
  unfold writtenMap
  split <;> rfl

theorem wellFormed_writtenCurve (p : List Byte) {b : Bank} (hb : b.wellFormed) : (writtenCurve p b).wellFormed := by
  unfold writtenCurve
  split
  next entry hentry =>
    intro i c hc
    simp only [Fin.getElem_fin, Vector.getElem_set] at hc
    split at hc
    · exact wellFormed_of_curveOf (hc ▸ hentry)
    · exact hb i c hc
  next => exact hb

theorem wellFormed_writtenPoints (p : List Byte) {b : Bank} (hb : b.wellFormed) : (writtenPoints p b).wellFormed :=
  wellFormed_of_curves (by unfold writtenPoints; rfl) hb

/-- R79: a body that reads as a bank has curves in their ranges. -/
theorem wellFormed_of_bankOf {body : List Byte} {b : Bank} (h : bankOf body = some b) : b.wellFormed := by
  unfold bankOf at h
  split at h
  next =>
    simp only [Option.bind_eq_bind, Option.bind_eq_some_iff, tableOf, Option.dite_none_right_eq_some, Option.some.injEq] at h
    obtain ⟨_, -, _, -, _, ⟨hcurves, rfl⟩, _, -, h⟩ := h
    cases h
    intro i c hc
    simp only [Fin.getElem_fin, Vector.getElem_ofFn] at hc
    exact wellFormed_of_curveOf (Option.eq_some_of_isSome (hcurves i) |>.trans (congrArg some hc))
  next => cases h

theorem wellFormed_of_loadedBank {slot : NvSlot} {b : Bank} (h : loadedBank slot = some b) : b.wellFormed := by
  unfold loadedBank at h
  split at h
  · split at h
    · exact wellFormed_of_bankOf h
    · cases h
  · cases h

/-! ### The meanings of the requests as chains -/

/-- R142: a table write is one move of the shadow. -/
theorem runsAsChain_of_write {r : RequestRules} {new : RequestFrame → Bank → Bank} (hcode : r.code ≠ 0x04)
    (howner : r.owner = needsEditable) (hcurves : ∀ f b, b.wellFormed → (new f b).wellFormed) :
    RunsAsChain r (fun f s => (setShadowBank (new f (shadowBank s)) s, dataAnswer [])) := by
  refine runsAsChain_of_control hcode (fun f s hjudged => ?_) (fun _ _ => setShadowBank_engine _ _) fun _ _ => rfl
  exact .write _ (editable_of_judged howner hjudged) (hcurves f _)

theorem setLink_chain : RunsAsChain setLinkRules runSetLink :=
  fun f s hidle _ => ⟨.first (.setMask ((param f.params 1).setWidth 3)) (.single .other), hidle, rfl⟩

theorem restart_chain : RunsAsChain restartRules runRestart := by
  intro f s hidle hjudged
  obtain ⟨-, -, hform, -⟩ := judgeRequest_eq_none.mp hjudged
  exact ⟨.refl, hidle, hform⟩

theorem releaseAddress_chain : RunsAsChain releaseAddressRules runReleaseAddress :=
  runsAsChain_of_move (by decide) (fun _ _ _ => .other) (fun _ _ => rfl) fun _ _ => rfl

theorem readCounters_chain : RunsAsChain readCountersRules runReadCounters := by
  refine runsAsChain_of_move (by decide) (fun f s _ => ?_) (fun f s => ?_) fun _ _ => rfl
  · unfold runReadCounters clearedCounters
    dsimp only
    split
    · split <;> exact .other
    · exact .other
  · unfold runReadCounters clearedCounters
    dsimp only
    split
    · split <;> rfl
    · rfl

theorem copyActive_chain : RunsAsChain copyActiveRules runCopyActive :=
  runsAsChain_of_control (by decide)
    (fun _ _ h => .copy _ (editable_of_judged rfl h) (running_of_judged rfl h)) (fun _ _ => rfl) fun _ _ => rfl

theorem validate_chain : RunsAsChain validateRules runValidate :=
  runsAsChain_of_control (by decide)
    (fun _ _ h => .validate _ (editable_of_judged rfl h) (running_of_judged rfl h)) (fun _ _ => rfl)
    fun _ _ => rfl

theorem commit_chain : RunsAsChain commitRules runCommit := by
  refine runsAsChain_of_control (by decide) (fun f s h => ?_) (fun f s => ?_) fun f s => ?_
  · unfold runCommit
    split
    next => exact .commit _ _ _ (editable_of_judged rfl h) (running_of_judged rfl h)
    next hmode =>
      have hsome : (commitModeOf f.params).isSome = true := (judgeRequest_eq_none.mp h).2.2.1
      rw [hmode] at hsome
      cases hsome
  all_goals
    unfold runCommit
    split <;> rfl

theorem cancelCommit_chain : RunsAsChain cancelCommitRules runCancelCommit := by
  intro f s hidle hjudged
  have hcommit := (needsCommit_eq_none f.params).mp (owner_of_judged hjudged)
  unfold runCancelCommit
  dsimp only
  split
  · refine ⟨.first .other (endCommit_chain (s := { s with freeCount := s.freeCount + 1 }) _ hcommit), ?_, rfl⟩
    unfold endCommit
    dsimp only
    split
    · rw [raiseCompletion_engine]; exact hidle
    · exact hidle
  · exact ⟨.first .other (.single (.control (.endCommit (s := { s with freeCount := s.freeCount + 1 }) hcommit))), hidle, rfl⟩

theorem storeSave_chain : RunsAsChain storeSaveRules runStoreSave := by
  refine runsAsChain_of_control (by decide) (fun f s h => ?_) (fun _ _ => rfl) fun _ _ => rfl
  obtain ⟨-, hop⟩ := Option.or_eq_none_iff.mp (owner_of_judged h)
  obtain ⟨hunprotected, hgeneration⟩ := Option.or_eq_none_iff.mp (conditions_of_judged h)
  exact .save f ((needsStoreIdle_eq_none _).mp hop) (running_of_judged rfl h) (needsUnprotected_eq_none.mp hunprotected)
    (needsGeneration_eq_none.mp hgeneration)

theorem storeLoad_chain : RunsAsChain storeLoadRules runStoreLoad := by
  refine runsAsChain_of_control (by decide) (fun f s h => ?_) (fun _ _ => rfl) fun _ _ => rfl
  obtain ⟨heditable, hop⟩ := Option.or_eq_none_iff.mp (owner_of_judged h)
  exact .load _ _ ((needsStoreIdle_eq_none _).mp hop) (running_of_judged rfl h) ((needsEditable_eq_none _).mp heditable)

theorem storeErase_chain : RunsAsChain storeEraseRules runStoreErase :=
  runsAsChain_of_control (by decide)
    (fun f _ h => .erase f (storeIdle_of_judged rfl h) (running_of_judged rfl h)
      (needsUnprotected_eq_none.mp (conditions_of_judged h))) (fun _ _ => rfl) fun _ _ => rfl

theorem storeSetBoot_chain : RunsAsChain storeSetBootRules runStoreSetBoot :=
  runsAsChain_of_control (by decide)
    (fun f _ h => .dirWrite f _ (storeIdle_of_judged rfl h) (running_of_judged rfl h)) (fun _ _ => rfl)
    fun _ _ => rfl

theorem storeProtect_chain : RunsAsChain storeProtectRules runStoreProtect :=
  runsAsChain_of_control (by decide)
    (fun f _ h => .dirWrite f _ (storeIdle_of_judged rfl h) (running_of_judged rfl h)) (fun _ _ => rfl)
    fun _ _ => rfl

end Sys2Proof.Machine

namespace Sys2Proof.Machine

/-! ### Every command is a chain -/

theorem countMalformed_chain (port : Port) (s : State) : Chain s (countMalformed port s) := by
  cases port <;> exact .single .other

theorem countCheckError_chain (port : Port) (s : State) : Chain s (countCheckError port s) := by
  cases port <;> exact .single .other

theorem acceptReverse_chain (s : State) : Chain s (acceptReverse s) := .first (.receive .d .idle rfl) (.single .other)

theorem offerRequest_chain (f : ReverseFrame) (s : State) : Chain s (offerRequest f s) := by
  unfold offerRequest
  split
  next hroom => exact .single (.queueRequest f hroom)
  next => exact .single .other

theorem offerReverse_chain (f : ReverseFrame) (s : State) : Chain s (offerReverse f s) := by
  unfold offerReverse
  split
  next hroom => exact .single (.queueReverse f ((reverseRoom_iff s).mp hroom))
  next => exact .single .other

theorem execDataByteAppended_chain {port : Port} {byte : Byte} {s t : State} (hrun : s.held = false)
    (h : execDataByteAppended port byte s = .next t) : Chain s t := by
  rw [eq_of_unlessHeld hrun h]
  split
  next => exact .refl
  next bytes _ =>
    split
    next hroom => exact .single (.receive port _ (by simpa [Receiver.bounded] using Nat.succ_le_of_lt hroom))
    next => exact .single (.receive port _ rfl)
  next => exact .refl

theorem execForwardFrameAccepted_chain {s t : State} (hrun : s.held = false) (h : execForwardFrameAccepted s = .next t) :
    Chain s t := by
  rw [eq_of_unlessHeld hrun h]
  split
  next f _ =>
    refine .first (.receive .u .idle rfl) ?_
    unfold offerIngress
    split
    next hroom => exact .single (.join f hroom)
    next => exact .first .other (.single .overrun)
  next => exact .refl

/-- R22: a frame taken while RUNNING goes by the mode that its group has now. -/
theorem judgeByMode_chain {f : SampleFrame} {rest : List ForwardFrame} {s : State} (hfree : s.intake = .free)
    (hhead : s.ingress = .sample f :: rest) (hmode : s.mode = .running) :
    Chain s (judgeByMode f (removeIngressHead rest s)) := by
  unfold judgeByMode
  split
  next => exact .single (.pass hfree hhead)
  next => exact .single (.block hfree hhead)
  next hprocess => exact .single (.bind hfree hhead hmode hprocess)

theorem swapIfTarget_ingress (f : SampleFrame) (s : State) : (swapIfTarget f s).ingress = s.ingress :=
  (forwardPlaces_eq_iff.mp (swapIfTarget_places f s)).2.2.2

theorem swapIfTarget_intake (f : SampleFrame) (s : State) : (swapIfTarget f s).intake = s.intake :=
  (forwardPlaces_eq_iff.mp (swapIfTarget_places f s)).2.1

theorem endBootLoaded_mode {s : State} : (endBootLoaded s).mode = .running := by
  unfold endBootLoaded
  dsimp only
  split
  · exact reportBoot_mode _ _
  · rfl

/-- R191: a swap ends the boot or leaves the mode as it was. -/
theorem swap_mode {s : State} (hmode : s.mode = .running) : (swap s).mode = .running := by
  rw [swap_eq_afterSwap]
  split
  · exact (raiseCompletion_mode _ _ _).trans hmode
  · exact endBootLoaded_mode
  · exact hmode

theorem swapIfTarget_mode {f : SampleFrame} {s : State} (hmode : s.mode = .running) : (swapIfTarget f s).mode = .running := by
  obtain h | h := swapIfTarget_cases f s
  · rw [h]; exact swap_mode hmode
  · rw [h]; exact hmode

theorem execIntakeSampleFrame_chain {s t : State} (hrun : s.held = false) (h : execIntakeSampleFrame s = .next t) :
    Chain s t := by
  rw [eq_of_unlessHeld hrun h]
  split
  next f rest hfree hhead =>
    dsimp only
    split
    next => exact .single (.pass hfree hhead)
    next hmode =>
      rw [swapIfTarget_removeIngressHead]
      exact (swapIfTarget_chain f hfree).trans (judgeByMode_chain ((swapIfTarget_intake f s).trans hfree)
        ((swapIfTarget_ingress f s).trans hhead) (swapIfTarget_mode hmode))
  next => exact .refl

theorem acceptSequence_chain (f : SampleFrame) (missing : Nat) (s : State) : Chain s (acceptSequence f missing s) := by
  unfold acceptSequence
  dsimp only
  split
  · exact .single .other
  · exact .first .other (.single (.sequence _))

theorem acceptSequence_stage (f : SampleFrame) (missing : Nat) (s : State) : (acceptSequence f missing s).stage = s.stage :=
  (forwardPlaces_eq_iff.mp (acceptSequence_places f missing s)).2.2.1

/-- R40: a complete output frame is delivered or STALLED. -/
theorem correctFrame_chain {f : SampleFrame} {bank : BankName} (gap : Bool) {s : State} (hbound : s.stage = .bound f bank) :
    Chain s (correctFrame f bank gap s) := by
  refine Chain.first (t := { s with slotCounts := countedSlots (bankNamed s bank) f s.slotCounts }) .other ?_
  unfold correctFrame deliver
  dsimp only
  split
  next hroom =>
    exact .first (.deliver _ (by simp [hbound]) (of_decide_eq_true hroom)) (betweenFrames_chain rfl)
  next => exact .single (.stall _ hbound)

theorem discardDuplicate_chain {f : SampleFrame} {bank : BankName} {s : State} (hbound : s.stage = .bound f bank) :
    Chain s (discardDuplicate f s) := by
  have hcounted : Move s { s with 
      groupCounts := s.groupCounts.set f.group { s.groupCounts[f.group] with dup := satAdd s.groupCounts[f.group].dup 1 } } := .other
  exact .first hcounted (.first (.discard hbound) (.first (.sequence f.group)
    (betweenFrames_chain ((reportSequence_stage _ _).trans rfl))))

theorem execCorrectionDone_chain {s t : State} (hrun : s.held = false) (h : execCorrectionDone s = .next t) : Chain s t := by
  rw [eq_of_unlessHeld hrun h]
  split
  next f bank hbound =>
    have hcorrected (gap : Bool) (missing : Nat) : Chain s (correctFrame f bank gap (acceptSequence f missing s)) :=
      (acceptSequence_chain f missing s).trans (correctFrame_chain gap ((acceptSequence_stage f missing s).trans hbound))
    split
    · exact discardDuplicate_chain hbound
    · exact hcorrected false 0
    · exact hcorrected false 0
    · exact hcorrected true _
  next => exact .refl

theorem execStalledOutputPlaced_chain {s t : State} (hrun : s.held = false) (h : execStalledOutputPlaced s = .next t) :
    Chain s t := by
  rw [eq_of_unlessHeld hrun h]
  split
  next out bank hstalled =>
    split
    next hroom =>
      unfold deliver
      rw [if_pos hroom]
      exact .first (.deliver _ (by simp [hstalled]) (of_decide_eq_true hroom)) (betweenFrames_chain rfl)
    next => exact .refl
  next => exact .refl

theorem execDFrameStart_chain {s t : State} (hrun : s.held = false) (h : execDFrameStart s = .next t) : Chain s t := by
  rw [eq_of_unlessHeld hrun h]
  split
  next hready _ =>
    split
    · exact .single (.startForward hready)
    · exact .single (.startLocal hready)
    · exact .refl
  next => exact .refl

theorem execDFrameSent_chain {s t : State} (hrun : s.held = false) (h : execDFrameSent s = .next t) : Chain s t := by
  rw [eq_of_unlessHeld hrun h]
  split
  next => exact .refl
  next f hsend =>
    dsimp only
    split
    next form hengine =>
      split
      next hresponse => exact .single (.restart hengine hsend hresponse)
      next hother => exact .single (.sent hsend fun _ _ => Bool.eq_false_iff.mpr hother)
    next hother => exact .single (.sent hsend fun form hengine => absurd hengine (hother form))

theorem execUFrameStart_chain {s t : State} (hrun : s.held = false) (h : execUFrameStart s = .next t) : Chain s t := by
  rw [eq_of_unlessHeld hrun h]
  split
  next => exact .single .other
  next hhead => exact .first (.unqueueReverse hhead) (.single .other)
  next => exact .refl

theorem execRequestFrame_chain {s t : State} (hrun : s.held = false) (h : execRequestFrame s = .next t) : Chain s t := by
  rw [eq_of_unlessHeld hrun h]
  split
  next f _ =>
    have hoffered : Chain s
        (if takesTarget s.address f.target then offerRequest (.request f) (acceptReverse s) else acceptReverse s) := by
      split
      · exact (acceptReverse_chain s).trans (offerRequest_chain _ _)
      · exact acceptReverse_chain s
    dsimp only
    split
    · exact hoffered.trans (offerReverse_chain _ _)
    · exact hoffered
  next => exact .refl

theorem execEnumerateFrame_chain {s t : State} (hrun : s.held = false) (h : execEnumerateFrame s = .next t) : Chain s t := by
  rw [eq_of_unlessHeld hrun h]
  split
  next =>
    split
    · exact (acceptReverse_chain s).trans (offerRequest_chain _ _)
    · exact (acceptReverse_chain s).trans (offerReverse_chain _ _)
  next => exact .refl

/-- R115: the answer to an Enumerate is no answer to a RESTART. -/
theorem enumerated_chain (f : EnumFrame) (result : Result) (data : List Byte) (successor : Option EnumFrame) {s : State}
    (hidle : s.engine = .idle) : Chain s (offerAnswer (enumerated f result data s) successor none s) :=
  .single (.answer _ _ _ hidle rfl nofun)

theorem execEnumerateTaken_chain {s t : State} (hrun : s.held = false) (h : execEnumerateTaken s = .next t) : Chain s t := by
  rw [eq_of_unlessHeld hrun h]
  split
  next f rest hidle hhead =>
    refine .first (.take hhead) ?_
    dsimp only
    split
    · split
      · exact enumerated_chain f _ _ _ hidle
      · exact .first .other (enumerated_chain (s := { s with requestQ := rest, address := _ }) f _ _ _ hidle)
    · exact enumerated_chain f _ _ _ hidle
  next => exact .refl

theorem execBadCode_chain {s t : State} (hrun : s.held = false) (h : execBadCode s = .next t) : Chain s t := by
  rw [eq_of_unlessHeld hrun h]
  split
  next f rest hidle hhead =>
    split
    next => exact .refl
    next hunknown =>
      have hcode : f.code ≠ 0x04 := fun hcode => hunknown (hcode ▸ rfl)
      exact .first (.take hhead) (respond_chain hidle (by simp only [plainAnswer, beq_false_of_ne hcode, Bool.false_and, Option.isSome_none]))
  next => exact .refl

theorem execHeldResponseEnters_chain {s t : State} (hrun : s.held = false) (h : execHeldResponseEnters s = .next t) :
    Chain s t := by
  rw [eq_of_unlessHeld hrun h]
  split
  next hholding =>
    split
    next hresponse =>
      split
      next hroom => exact .single (.responseEnters hholding hresponse ((responseRoom_iff s).mp hroom).1)
      next => exact .refl
    next => exact .refl
  next => exact .refl

theorem execSuccessorEnters_chain {s t : State} (hrun : s.held = false) (h : execSuccessorEnters s = .next t) : Chain s t := by
  rw [eq_of_unlessHeld hrun h]
  split
  next hholding =>
    split
    next hsuccessor =>
      split
      next hroom => exact .single (.successorEnters hholding hsuccessor ((reverseRoom_iff s).mp hroom))
      next => exact .refl
    next => exact .refl
  next => exact .refl

theorem execTestComplete_chain {s t : State} (hrun : s.held = false) (h : execTestComplete s = .next t) : Chain s t := by
  rw [eq_of_unlessHeld hrun h]
  split
  next hvalidating => exact endValidate_chain hvalidating
  next hvalidating =>
    split
    · exact endCommit_chain _ (.inr ⟨_, hvalidating⟩)
    next hpassed => exact swapIfIdle_arm_chain hvalidating nofun hpassed
  next hvalidating =>
    split
    next fault _ => exact .single (.control (.bootTestFailed fault hvalidating))
    next hpassed => exact swapIfIdle_arm_chain hvalidating nofun hpassed
  next => exact .refl

/-- Log 4: the use of a free value is no move of the part. -/
theorem Move.counted (s : State) : Move s { s with freeCount := s.freeCount + 1 } := .other

theorem execSaveComplete_chain {readsBack : Bool} {s t : State} (hrun : s.held = false)
    (h : execSaveComplete readsBack s = .next t) : Chain s t := by
  rw [eq_of_unlessHeld hrun h]
  split
  next hop =>
    split
    · exact .first (.control (.saved (bodyCheck (s.store.buffer.getD [])) (some (s.store.buffer.getD [])) hop)) (.single (.raise _ _))
    · exact .first (.counted s) (.first (.control (.saveFailed (s := { s with freeCount := s.freeCount + 1 }) (Config.bodyLeft s.freeCount) hop))
        (.single (.raise _ _)))
  next => exact .refl

theorem execEraseComplete_chain {readsErased : Bool} {s t : State} (hrun : s.held = false)
    (h : execEraseComplete readsErased s = .next t) : Chain s t := by
  rw [eq_of_unlessHeld hrun h]
  split
  next hop =>
    split
    · exact .first (.control (.erased hop)) (.single (.raise _ _))
    · exact .first (.counted s) (.first (.control (.eraseFailed (s := { s with freeCount := s.freeCount + 1 }) (Config.bodyLeft s.freeCount) hop))
        (.single (.raise _ _)))
  next => exact .refl

theorem execDirectoryWriteComplete_chain {readBack : DirReadBack} {s t : State} (hrun : s.held = false)
    (h : execDirectoryWriteComplete readBack s = .next t) : Chain s t := by
  rw [eq_of_unlessHeld hrun h]
  split
  next d target sequence hop =>
    split
    · exact .first (.control (.dirWritten (writtenCopy d sequence) _ hop)) (.single (.raise _ _))
    next left => exact .first (.control (.dirWritten left s.store.view hop)) (.single (.raise _ _))
  next => exact .refl

theorem withBodyRead_chain (slot : Fin 4) (read : BodyRead) (s : State) : Chain s (withBodyRead slot read s) := by
  cases read with
  | asStored => exact .refl
  | changed bytes => exact .single (.control (.bodyRead slot (some bytes)))

theorem withBodyRead_store (slot : Fin 4) (read : BodyRead) (s : State) : (withBodyRead slot read s).store = s.store := by
  cases read <;> rfl

theorem execLoadComplete_chain {read : BodyRead} {s t : State} (hrun : s.held = false)
    (h : execLoadComplete read s = .next t) : Chain s t := by
  rw [eq_of_unlessHeld hrun h]
  split
  next tag slot hop =>
    refine (withBodyRead_chain slot read s).trans ?_
    rw [← withBodyRead_store slot read s] at hop
    dsimp only
    split
    next b hloaded =>
      have hcurves := wellFormed_of_loadedBank hloaded
      cases tag with
      | some tag => exact Chain.first (.control (.loaded hop hcurves)) (.single (.raise _ _))
      | none => exact .single (.control (.bootLoaded hop hcurves))
    next =>
      cases tag with
      | some tag => exact Chain.first (.control (.loadFailed hop)) (.single (.raise _ _))
      | none => exact .single (.control (.bootLoadFailed hop))
  next => exact .refl

theorem execScanComplete_chain {s t : State} (hrun : s.held = false) (h : execScanComplete s = .next t) : Chain s t := by
  rw [eq_of_unlessHeld hrun h]
  split
  next hop =>
    split
    next hboot => exact .single (.control (.bootScanned hop (by rw [hboot]; rfl)))
    next hboot => exact .single (.control (.keptScanned hop hboot))
  next => exact .refl

/-- Out of hard reset, every command but HARD_RESET is a chain of moves. -/
theorem exec_chain {c : Instr} {s t : State} (hrun : s.held = false) (hreset : ∀ cause, c ≠ .hardReset cause)
    (h : exec c s = .next t) : Chain s t := by
  cases c with
  | hardReset cause => exact absurd rfl (hreset cause)
  | hardResetRelease pins =>
    simp only [exec, execHardResetRelease, hrun, Bool.false_and, Bool.false_eq_true, if_false] at h
    cases h
    exact .refl
  | checkError port =>
    rw [eq_of_unlessHeld hrun h]
    split
    · exact (countCheckError_chain port s).last (.receive port .idle rfl)
    · exact .refl
  | malformed port symbol =>
    rw [eq_of_unlessHeld hrun h]
    split
    · exact (countMalformed_chain port s).last (.receive port _ (by cases symbol <;> rfl))
    · exact .refl
  | frameOpens port =>
    rw [eq_of_unlessHeld hrun h]
    split
    · exact .single (.receive port _ rfl)
    all_goals exact (countMalformed_chain port s).last (.receive port _ rfl)
  | dataByteAppended port byte => exact execDataByteAppended_chain hrun h
  | forwardFrameAccepted => exact execForwardFrameAccepted_chain hrun h
  | intakeSampleFrame => exact execIntakeSampleFrame_chain hrun h
  | intakePassingFrame =>
    rw [eq_of_unlessHeld hrun h]
    split
    next hfree hhead => exact .single (.pass hfree hhead)
    next hfree hhead => exact .single (.pass hfree hhead)
    next => exact .refl
  | waitingFramePlaced =>
    rw [eq_of_unlessHeld hrun h]
    split
    next hwaiting =>
      split
      next hroom => exact .single (.place hwaiting (of_decide_eq_true hroom))
      next => exact .refl
    next => exact .refl
  | correctionDone => exact execCorrectionDone_chain hrun h
  | stalledOutputPlaced => exact execStalledOutputPlaced_chain hrun h
  | dFrameStart => exact execDFrameStart_chain hrun h
  | dFrameSent => exact execDFrameSent_chain hrun h
  | uFrameStart => exact execUFrameStart_chain hrun h
  | requestFrame => exact execRequestFrame_chain hrun h
  | enumerateFrame => exact execEnumerateFrame_chain hrun h
  | holdFrame | releaseFrame =>
    rw [eq_of_unlessHeld hrun h]
    split
    · exact (acceptReverse_chain s).last .other
    · exact .refl
  | holdTimerExpiry =>
    rw [eq_of_unlessHeld hrun h]
    split
    exacts [.single .other, .refl]
  | uFrameSent =>
    rw [eq_of_unlessHeld hrun h]
    split
    exacts [.refl, .single .other]
  | refreshTimerExpiry =>
    rw [eq_of_unlessHeld hrun h]
    split
    next hasserted _ => exact .single (.refresh hasserted)
    next => exact .refl
  | commitTimerExpiry =>
    rw [eq_of_unlessHeld hrun h]
    split
    next harmed _ => exact endCommit_chain _ (.inl harmed)
    next => exact .refl
  | enumerateTaken => exact execEnumerateTaken_chain hrun h
  | badCode => exact execBadCode_chain hrun h
  | heldResponseEnters => exact execHeldResponseEnters_chain hrun h
  | successorEnters => exact execSuccessorEnters_chain hrun h
  | noticeFormed => rw [eq_of_unlessHeld hrun h]; exact .single .form
  | identify | readStatus | storeDirectory =>
    rw [eq_of_unlessHeld hrun h]
    exact takeRequest_chain (runsAsChain_of_read (by decide)) (.inl (by decide)) s
  | readTable =>
    rw [eq_of_unlessHeld hrun h]
    exact takeRequest_chain (runsAsChain_of_read (r := readTableRules) (data := fun s f => tableData (roleBank s (param f.params 0)) (param f.params 1)
      (paramNat f.params 2) (paramNat f.params 3)) (by decide)) (.inl (by decide)) s
  | evaluate =>
    rw [eq_of_unlessHeld hrun h]
    exact takeRequest_chain (runsAsChain_of_read (r := evaluateRules) (data := fun s f => evaluateData f.params s) (by decide)) (.inl (by decide)) s
  | setLink => rw [eq_of_unlessHeld hrun h]; exact takeRequest_chain setLink_chain (.inl (by decide)) s
  | restart => rw [eq_of_unlessHeld hrun h]; exact takeRequest_chain restart_chain (.inr ⟨rfl, rfl⟩) s
  | releaseAddress => rw [eq_of_unlessHeld hrun h]; exact takeRequest_chain releaseAddress_chain (.inl (by decide)) s
  | writeGroup =>
    rw [eq_of_unlessHeld hrun h]
    exact takeRequest_chain (runsAsChain_of_write (by decide) rfl fun f _ => wellFormed_writtenGroup f.params)
      (.inl (by decide)) s
  | writeMap =>
    rw [eq_of_unlessHeld hrun h]
    exact takeRequest_chain (runsAsChain_of_write (by decide) rfl fun f _ => wellFormed_writtenMap f.params) (.inl (by decide)) s
  | writeCurve =>
    rw [eq_of_unlessHeld hrun h]
    exact takeRequest_chain (runsAsChain_of_write (by decide) rfl fun f _ => wellFormed_writtenCurve f.params)
      (.inl (by decide)) s
  | writePoints =>
    rw [eq_of_unlessHeld hrun h]
    exact takeRequest_chain (runsAsChain_of_write (by decide) rfl fun f _ => wellFormed_writtenPoints f.params)
      (.inl (by decide)) s
  | clearShadow =>
    rw [eq_of_unlessHeld hrun h]
    exact takeRequest_chain (runsAsChain_of_write (r := clearShadowRules) (new := fun _ _ => Bank.empty) (by decide) rfl
      fun _ _ _ => wellFormed_empty) (.inl (by decide)) s
  | readCounters => rw [eq_of_unlessHeld hrun h]; exact takeRequest_chain readCounters_chain (.inl (by decide)) s
  | copyActive => rw [eq_of_unlessHeld hrun h]; exact takeRequest_chain copyActive_chain (.inl (by decide)) s
  | validate => rw [eq_of_unlessHeld hrun h]; exact takeRequest_chain validate_chain (.inl (by decide)) s
  | commit => rw [eq_of_unlessHeld hrun h]; exact takeRequest_chain commit_chain (.inl (by decide)) s
  | cancelCommit => rw [eq_of_unlessHeld hrun h]; exact takeRequest_chain cancelCommit_chain (.inl (by decide)) s
  | storeSave => rw [eq_of_unlessHeld hrun h]; exact takeRequest_chain storeSave_chain (.inl (by decide)) s
  | storeLoad => rw [eq_of_unlessHeld hrun h]; exact takeRequest_chain storeLoad_chain (.inl (by decide)) s
  | storeErase => rw [eq_of_unlessHeld hrun h]; exact takeRequest_chain storeErase_chain (.inl (by decide)) s
  | storeSetBoot => rw [eq_of_unlessHeld hrun h]; exact takeRequest_chain storeSetBoot_chain (.inl (by decide)) s
  | storeProtect => rw [eq_of_unlessHeld hrun h]; exact takeRequest_chain storeProtect_chain (.inl (by decide)) s
  | copyComplete =>
    rw [eq_of_unlessHeld hrun h]
    split
    next hcopying => exact .first (.control (.copied hcopying)) (.single (.raise _ _))
    next => exact .refl
  | testComplete => exact execTestComplete_chain hrun h
  | saveComplete readsBack => exact execSaveComplete_chain hrun h
  | eraseComplete readsErased => exact execEraseComplete_chain hrun h
  | directoryWriteComplete readBack => exact execDirectoryWriteComplete_chain hrun h
  | loadComplete read => exact execLoadComplete_chain hrun h
  | scanComplete => exact execScanComplete_chain hrun h

/-! ### The step lemma of an invariant -/

/-- R185: while the part is held, every command but the two of the hard reset leaves the state as it was (log 3). -/
theorem exec_of_held {c : Instr} {s : State} (hheld : s.held = true) (hreset : ∀ cause, c ≠ .hardReset cause)
    (hrelease : ∀ pins, c ≠ .hardResetRelease pins) : exec c s = .next s := by
  cases c with
  | hardReset cause => exact absurd rfl (hreset cause)
  | hardResetRelease pins => exact absurd rfl (hrelease pins)
  | _ => exact congrArg Host.Outcome.next (if_pos hheld)

/-- What a command does: nothing in hard reset but on the pins, the release, the hard reset, or a chain of moves. -/
theorem exec_cases {c : Instr} {s t : State} (h : exec c s = .next t) :
    (s.held = true ∧ ∃ pins, t = { s with pins := pins }) ∨ (s.held = true ∧ ∃ pins, t = releaseHardReset pins s) ∨
      (∃ pins, t = { beginHardReset s with pins := pins }) ∨ (s.held = false ∧ Chain s t) := by
  by_cases hresets : ∃ cause, c = .hardReset cause
  · obtain ⟨cause, rfl⟩ := hresets
    cases h
    obtain hheld | hheld := Bool.eq_false_or_eq_true s.held <;> split
    · exact .inl ⟨hheld, _, rfl⟩
    · exact .inl ⟨hheld, s.pins, rfl⟩
    · rw [if_neg (Bool.eq_false_iff.mp hheld)]; exact .inr (.inr (.inl ⟨_, rfl⟩))
    · exact .inr (.inr (.inr ⟨hheld, .refl⟩))
  have hreset : ∀ cause, c ≠ .hardReset cause := fun cause hc => hresets ⟨cause, hc⟩
  obtain hheld | hheld := Bool.eq_false_or_eq_true s.held
  · by_cases hreleases : ∃ pins, c = .hardResetRelease pins
    · obtain ⟨pins, rfl⟩ := hreleases
      simp only [exec, execHardResetRelease, hheld, Bool.true_and, Host.Outcome.next.injEq] at h
      subst h
      split
      · exact .inr (.inl ⟨hheld, _, rfl⟩)
      · exact .inl ⟨hheld, s.pins, rfl⟩
    · rw [exec_of_held hheld hreset fun pins hc => hreleases ⟨pins, hc⟩] at h
      cases h
      exact .inl ⟨hheld, s.pins, rfl⟩
  · exact .inr (.inr (.inr ⟨hheld, exec_chain hheld hreset h⟩))

/-- A request's answer touches the local queue, the engine, the reverse forward queue and the notices alone. -/
theorem offerAnswer_eq (response : ResponseFrame) (successor : Option EnumFrame) (restart : Option RestartForm) (s : State) :
    ∃ localQ reverseQ engine, offerAnswer response successor restart s =
      { s with localQ := localQ, reverseQ := reverseQ, engine := engine } := by
  unfold offerAnswer
  cases responseRoom s <;> cases successor <;> cases reverseRoom s <;> exact ⟨_, _, _, rfl⟩

theorem passUnchanged_eq (f : ForwardFrame) (s : State) :
    passUnchanged f s = { s with egress := s.egress ++ [f] } ∧ s.egress.length < 8 ∨
      passUnchanged f s = { s with intake := .waiting f } ∧ 8 ≤ s.egress.length := by
  unfold passUnchanged egressRoom
  split
  next hroom => exact .inl ⟨rfl, of_decide_eq_true hroom⟩
  next hfull => exact .inr ⟨rfl, Nat.not_lt.mp fun hroom => hfull (decide_eq_true hroom)⟩

theorem endBankWork_held (s : State) : (endBankWork s).held = s.held := by
  rw [endBankWork_eq]
  exact setShadowBank_held _ _

theorem startForward_held (s : State) : (startForward s).held = s.held := by unfold startForward; split <;> rfl

theorem startLocal_held (s : State) : (startLocal s).held = s.held := by unfold startLocal; split <;> rfl

theorem setShadowBank_eq (b : Bank) (s : State) :
    ∃ bankA bankB, setShadowBank b s = { s with bankA := bankA, bankB := bankB } := by
  unfold setShadowBank
  split <;> exact ⟨_, _, rfl⟩

/-- A property of what the bank controller, the store and the boot do not touch, kept by notices. -/
structure ControlBlind (P : State → Prop) : Prop where
  banks : ∀ (s : State) (bankA bankB : Bank) (active : BankName) (shadow : Shadow) (commit : Option CommitRecord)
    (trackers : Vector Tracker 16) (slotCounts : Vector SlotCounters 64) (mode : Mode) (boot : Option BootRecord)
    (store : StoreController) (nv : NvStore), P s → P { s with
      bankA := bankA, bankB := bankB, active := active, shadow := shadow, commit := commit, trackers := trackers
      slotCounts := slotCounts, mode := mode, boot := boot, store := store, nv := nv }
  notice : ∀ s t, P s → NoticeStep s t → P t

theorem ControlBlind.setShadowBank {P : State → Prop} (hP : ControlBlind P) (b : Bank) {s : State} (hs : P s) :
    P (setShadowBank b s) := by
  obtain ⟨_, _, h⟩ := setShadowBank_eq b s
  rw [h]
  exact hP.banks s _ _ _ _ _ _ _ _ _ _ _ hs

theorem ControlBlind.swap {P : State → Prop} (hP : ControlBlind P) {s : State} (hs : P s) : P (swap s) := by
  have hswapped : P (afterSwap s) := hP.banks s _ _ _ _ _ _ _ _ _ _ _ hs
  rw [swap_eq_afterSwap]
  split
  · exact hP.notice _ _ hswapped (raiseCompletion_step _ _ _)
  · exact hP.notice _ _ (hP.banks _ _ _ _ _ _ _ _ _ _ _ _ hswapped) (endBootLoaded_step _)
  · exact hswapped

theorem ControlBlind.endCommit {P : State → Prop} (hP : ControlBlind P) (what : Completion) {s : State} (hs : P s) :
    P (endCommit what s) := by
  have hended : P { s with shadow := .editable, commit := none } := hP.banks s _ _ _ _ _ _ _ _ _ _ _ hs
  unfold Machine.endCommit
  dsimp only
  split
  · exact hP.notice _ _ hended (raiseCompletion_step _ _ _)
  · exact hended

theorem ControlBlind.chooseCandidate {P : State → Prop} (hP : ControlBlind P) {s : State} (hs : P s) :
    P (chooseCandidate s) := by
  unfold Machine.chooseCandidate
  split
  next => exact hs
  next =>
    split
    · exact hP.banks s _ _ _ _ _ _ _ _ _ _ _ hs
    · exact hP.notice _ _ (hP.banks _ _ _ _ _ _ _ _ _ _ _ _ (hP.setShadowBank Bank.empty hs)) (reportBoot_step _ _)

theorem ControlBlind.move {P : State → Prop} (hP : ControlBlind P) {s t : State} (hs : P s) (h : ControlMove s t) : P t := by
  cases h with
  | write b => exact hP.setShadowBank b hs
  | record => exact hP.setShadowBank _ hs
  | copied => exact hP.banks _ _ _ _ _ _ _ _ _ _ _ _ (hP.setShadowBank (activeBank s) hs)
  | arm => exact hP.banks _ _ _ _ _ _ _ _ _ _ _ _ (hP.setShadowBank (recordEmits (shadowBank s)) hs)
  | armNow =>
    exact hP.swap (hP.banks _ _ _ _ _ _ _ _ _ _ _ _ (hP.setShadowBank (recordEmits (shadowBank s)) hs))
  | swap => exact hP.swap hs
  | bootTestFailed fault => exact hP.chooseCandidate (hP.endCommit _ hs)
  | loaded => exact hP.setShadowBank _ (hP.banks s _ _ _ _ _ _ _ _ _ _ _ hs)
  | bootLoaded =>
    exact hP.banks _ _ _ _ _ _ _ _ _ _ _ _ (hP.setShadowBank _ (hP.banks s _ _ _ _ _ _ _ _ _ _ _ hs))
  | bootLoadFailed | bootScanned => exact hP.chooseCandidate (hP.banks s _ _ _ _ _ _ _ _ _ _ _ hs)
  | keptScanned => exact hP.notice _ _ (hP.banks s _ _ _ _ _ _ _ _ _ _ _ hs) (reportBoot_step _ _)
  | _ => exact hP.banks s _ _ _ _ _ _ _ _ _ _ _ hs

theorem ControlMove.held {s t : State} (h : ControlMove s t) : t.held = s.held :=
  ControlBlind.move (P := fun u => u.held = s.held)
    ⟨fun _ _ _ _ _ _ _ _ _ _ _ _ hs => hs, fun _ _ hs h => h.held.trans hs⟩ rfl h

/-- The moves do not touch the hard reset. -/
theorem Move.held {s t : State} (h : Move s t) : t.held = s.held := by
  cases h with
  | restart => exact endBankWork_held _
  | receive => exact setRx_held _ _ _
  | pass => obtain ⟨h, -⟩ | ⟨h, -⟩ := passUnchanged_eq _ _ <;> rw [h] <;> rfl
  | startForward => exact startForward_held s
  | startLocal => exact startLocal_held s
  | answer => obtain ⟨_, _, _, h⟩ := offerAnswer_eq _ _ _ s; rw [h]
  | form => exact offerNotice_held s
  | raise => exact raiseCompletion_held _ _ s
  | overrun => exact reportOverrun_held s
  | sequence => exact reportSequence_held _ s
  | control h => exact h.held
  | _ => rfl

/-- An invariant that the moves and the hard reset keep is kept by every step. -/
structure Invariant (P : State → Prop) : Prop where
  commands : ∀ (s : State) (waiting : List Instr), P s → P { s with pending := waiting }
  pins : ∀ (s : State) (pins : Pins), P s → P { s with pins := pins }
  hardReset : ∀ s, P s → P (beginHardReset s)
  release : ∀ (s : State) (pins : Pins), P s → P (releaseHardReset pins s)
  move : ∀ s t, s.held = false → P s → Move s t → P t

theorem Invariant.exec {P : State → Prop} (hP : Invariant P) {c : Instr} {s t : State} (hs : P s) (h : exec c s = .next t) :
    P t := by
  obtain ⟨-, pins, rfl⟩ | ⟨-, pins, rfl⟩ | ⟨pins, rfl⟩ | ⟨hrun, hchain⟩ := exec_cases h
  · exact hP.pins s pins hs
  · exact hP.release s pins hs
  · exact hP.pins _ pins (hP.hardReset s hs)
  · have hkept : t.held = false ∧ P t :=
      hchain.keeps (P := fun u => u.held = false ∧ P u)
        (fun u v hu hmove => ⟨hmove.held.trans hu.1, hP.move u v hu.1 hu.2 hmove⟩) ⟨hrun, hs⟩
    exact hkept.2

theorem Invariant.step {P : State → Prop} (hP : Invariant P) {s t : State} (hs : P s) (h : step s = .next t) : P t := by
  unfold Machine.step at h
  split at h
  · cases h; exact hs
  · exact hP.exec (hP.commands s _ hs) h

end Sys2Proof.Machine

/-! O52, O53, O59: the invariants that the bank controller and the store do not touch: the places of the queues, the upstream hold,
the conservation of forward frames and the restart handshake. -/

namespace Sys2Proof.Machine

theorem endBankWork_fields (s : State) : ∃ bankA bankB,
    endBankWork s = { s with bankA := bankA, bankB := bankB, shadow := .editable, commit := none } := by
  obtain ⟨bankA, bankB, h⟩ := setShadowBank_eq (shadowAfterEnd s) s
  refine ⟨bankA, bankB, ?_⟩
  rw [endBankWork_eq, h]

/-- R89: the removal of the head of the ingress queue. -/
theorem removeIngressHead_fields (rest : List ForwardFrame) (s : State) :
    removeIngressHead rest s = { s with ingress := rest, flow := flowAfterRemoval s.flow rest.length } := rfl

/-! ### The queues (R89, R91, R93, R114, R120) and the receivers (R67) -/

theorem queuesBounded_controlBlind : ControlBlind QueuesBounded where
  banks _ _ _ _ _ _ _ _ _ _ _ _ hs := hs
  notice s t hs h := by
    obtain ⟨hingress, hegress, hlocal, hrequest, hreverse, hu, hd⟩ := hs
    obtain ⟨n, q, rfl, hq⟩ := h
    refine ⟨hingress, hegress, ?_, hrequest, hreverse, hu, hd⟩
    obtain rfl | ⟨f, rfl, hroom⟩ := hq
    · simpa using hlocal
    · simpa using hroom

theorem queuesBounded_offerAnswer (response : ResponseFrame) (successor : Option EnumFrame) (restart : Option RestartForm)
    {s : State} (hs : QueuesBounded s) : QueuesBounded (offerAnswer response successor restart s) := by
  obtain ⟨hingress, hegress, hlocal, hrequest, hreverse, hu, hd⟩ := hs
  have hlocalQ : (offerAnswer response successor restart s).localQ.length ≤ 4 := by
    have hentered : (if responseRoom s then pushLocal (.response response) s else s).localQ.length ≤ 4 := by
      split
      next hroom => simpa using ((responseRoom_iff s).mp hroom).1
      next => exact hlocal
    refine le_of_eq_of_le ?_ hentered
    unfold offerAnswer
    cases successor with
    | none => rfl
    | some e => cases reverseRoom s <;> rfl
  have hreverseQ : (offerAnswer response successor restart s).reverseQ.length ≤ 8 := by
    unfold offerAnswer
    cases successor with
    | none => dsimp only; split <;> exact hreverse
    | some e =>
      dsimp only
      split
      next hroom =>
        have hroom' := (reverseRoom_iff s).mp hroom
        split <;> simpa using hroom'
      next => split <;> exact hreverse
  obtain ⟨_, _, _, h⟩ := offerAnswer_eq response successor restart s
  rw [h] at hlocalQ hreverseQ ⊢
  exact ⟨hingress, hegress, hlocalQ, hrequest, hreverseQ, hu, hd⟩

/-- A queue with a place takes a frame. -/
theorem length_join {α : Type} {q : List α} {n : Nat} (f : α) (hroom : q.length < n) : (q ++ [f]).length ≤ n := by
  simpa using hroom

/-- A queue whose head has left. -/
theorem length_rest {α : Type} {q rest : List α} {n : Nat} {f : α} (hhead : q = f :: rest) (h : q.length ≤ n) :
    rest.length ≤ n := by
  subst hhead
  exact Nat.le_of_succ_le h

theorem queuesBounded_move {s t : State} (hs : QueuesBounded s) (h : Move s t) : QueuesBounded t := by
  obtain ⟨hingress, hegress, hlocal, hrequest, hreverse, hu, hd⟩ := id hs
  cases h with
  | control h => exact queuesBounded_controlBlind.move hs h
  | form => exact queuesBounded_controlBlind.notice _ _ hs (offerNotice_step s)
  | raise => exact queuesBounded_controlBlind.notice _ _ hs (raiseCompletion_step _ _ s)
  | overrun => exact queuesBounded_controlBlind.notice _ _ hs (reportOverrun_step s)
  | sequence => exact queuesBounded_controlBlind.notice _ _ hs (reportSequence_step _ s)
  | answer response successor restart => exact queuesBounded_offerAnswer response successor restart hs
  | restart => exact ⟨Nat.zero_le _, Nat.zero_le _, Nat.zero_le _, Nat.zero_le _, Nat.zero_le _, rfl, rfl⟩
  | receive port rx hbounded =>
    cases port with
    | u => exact ⟨hingress, hegress, hlocal, hrequest, hreverse, hbounded, hd⟩
    | d => exact ⟨hingress, hegress, hlocal, hrequest, hreverse, hu, hbounded⟩
  | join f hroom => exact ⟨length_join f hroom, hegress, hlocal, hrequest, hreverse, hu, hd⟩
  | pass _ hhead =>
    have hrest := length_rest hhead hingress
    obtain ⟨h, hroom⟩ | ⟨h, -⟩ := passUnchanged_eq _ (removeIngressHead _ s) <;> rw [h]
    · exact ⟨hrest, length_join _ hroom, hlocal, hrequest, hreverse, hu, hd⟩
    · exact ⟨hrest, hegress, hlocal, hrequest, hreverse, hu, hd⟩
  | block _ hhead | bind _ hhead =>
    exact ⟨length_rest hhead hingress, hegress, hlocal, hrequest, hreverse, hu, hd⟩
  | place _ hroom | deliver _ _ hroom => exact ⟨hingress, length_join _ hroom, hlocal, hrequest, hreverse, hu, hd⟩
  | startForward =>
    unfold startForward
    split
    next => exact hs
    next hhead => exact ⟨hingress, length_rest hhead hegress, hlocal, hrequest, hreverse, hu, hd⟩
  | startLocal =>
    unfold startLocal
    split
    next => exact hs
    next hhead => exact ⟨hingress, hegress, length_rest hhead hlocal, hrequest, hreverse, hu, hd⟩
  | queueRequest f hroom => exact ⟨hingress, hegress, hlocal, length_join f hroom, hreverse, hu, hd⟩
  | take hhead => exact ⟨hingress, hegress, hlocal, length_rest hhead hrequest, hreverse, hu, hd⟩
  | queueReverse _ hroom | successorEnters _ _ hroom =>
    exact ⟨hingress, hegress, hlocal, hrequest, length_join _ hroom, hu, hd⟩
  | unqueueReverse hhead => exact ⟨hingress, hegress, hlocal, hrequest, length_rest hhead hreverse, hu, hd⟩
  | responseEnters _ _ hroom => exact ⟨hingress, hegress, length_join _ hroom, hrequest, hreverse, hu, hd⟩
  | other | discard | stall | refresh | sent | setMask => exact hs

theorem queuesBounded_invariant : Invariant QueuesBounded where
  commands _ _ hs := hs
  pins _ _ hs := hs
  hardReset s hs := by
    obtain ⟨hingress, hegress, hlocal, hrequest, hreverse, -, -⟩ := hs
    obtain ⟨_, _, h⟩ := endBankWork_fields s
    simp only [beginHardReset, interruptStore, h]
    exact ⟨hingress, hegress, hlocal, hrequest, hreverse, rfl, rfl⟩
  release _ _ _ := ⟨Nat.zero_le _, Nat.zero_le _, Nat.zero_le _, Nat.zero_le _, Nat.zero_le _, rfl, rfl⟩
  move _ _ _ := queuesBounded_move

/-! ### The upstream hold (R100 to R103) -/

theorem flowSound_controlBlind : ControlBlind FlowSound where
  banks _ _ _ _ _ _ _ _ _ _ _ _ hs := hs
  notice s t hs h := by
    obtain ⟨n, q, rfl, -⟩ := h
    exact hs

/-- R101: the entry of a frame. -/
theorem flowSound_entry {s : State} {f : ForwardFrame} (hs : FlowSound s) : FlowSound { s with
    ingress := s.ingress ++ [f], flow := flowAfterEntry s.flow (s.ingress.length + 1) } := by
  obtain ⟨htimer, hoccupancy⟩ := hs
  unfold flowAfterEntry
  split
  next hasserts => exact ⟨by simp [placeHold], fun _ => ⟨fun _ => by simp [hasserts.1], nofun⟩⟩
  next hkeeps =>
    refine ⟨htimer, fun hrun => ?_⟩
    obtain ⟨habove, hbelow⟩ := hoccupancy hrun
    simp only [List.length_append, List.length_singleton]
    refine ⟨fun h => Nat.lt_succ_of_lt (habove h), fun h => ?_⟩
    have := hbelow h
    have : s.ingress.length + 1 ≠ 6 := fun hsix => hkeeps ⟨hsix, h⟩
    omega

/-- R103: the removal of a frame. -/
theorem flowSound_removal {s : State} {f : ForwardFrame} {rest : List ForwardFrame} (hhead : s.ingress = f :: rest)
    (hs : FlowSound s) : FlowSound (removeIngressHead rest s) := by
  obtain ⟨htimer, hoccupancy⟩ := hs
  rw [removeIngressHead_fields]
  unfold flowAfterRemoval
  split
  next hreleases => exact ⟨by simp [placeRelease], fun _ => ⟨nofun, fun _ => by simp [hreleases.1]⟩⟩
  next hkeeps =>
    refine ⟨htimer, fun hrun => ?_⟩
    obtain ⟨habove, hbelow⟩ := hoccupancy hrun
    simp only [hhead, List.length_cons] at habove hbelow
    refine ⟨fun h => ?_, fun h => Nat.lt_of_succ_lt (hbelow h)⟩
    have := habove h
    have : rest.length ≠ 2 := fun htwo => hkeeps ⟨htwo, h⟩
    show 2 < rest.length
    omega

theorem flowSound_move {s t : State} (hs : FlowSound s) (h : Move s t) : FlowSound t := by
  cases h with
  | control h => exact flowSound_controlBlind.move hs h
  | form => exact flowSound_controlBlind.notice _ _ hs (offerNotice_step s)
  | raise => exact flowSound_controlBlind.notice _ _ hs (raiseCompletion_step _ _ s)
  | overrun => exact flowSound_controlBlind.notice _ _ hs (reportOverrun_step s)
  | sequence => exact flowSound_controlBlind.notice _ _ hs (reportSequence_step _ s)
  | answer => obtain ⟨_, _, _, h⟩ := offerAnswer_eq _ _ _ s; rw [h]; exact hs
  | restart => exact ⟨by simp [beginRestart], fun _ => ⟨nofun, fun _ => Nat.zero_lt_succ 5⟩⟩
  | receive port => cases port <;> exact hs
  | join f => exact flowSound_entry (f := f) hs
  | pass _ hhead =>
    obtain ⟨h, -⟩ | ⟨h, -⟩ := passUnchanged_eq _ (removeIngressHead _ s) <;> rw [h] <;> exact flowSound_removal hhead hs
  | block _ hhead => exact flowSound_removal hhead hs
  | bind _ hhead => exact flowSound_removal hhead hs
  | refresh hasserted => exact ⟨by simp [placeHold], fun hrun => ⟨fun _ => (hs.2 hrun).1 hasserted, nofun⟩⟩
  | startForward => unfold startForward; split <;> exact hs
  | startLocal => unfold startLocal; split <;> exact hs
  | _ => exact hs

theorem flowSound_invariant : Invariant FlowSound where
  commands _ _ hs := hs
  pins _ _ hs := hs
  hardReset s _ := ⟨by simp [beginHardReset], nofun⟩
  release _ _ _ := ⟨by simp [releaseHardReset, State.reset], fun _ => ⟨nofun, fun _ => Nat.zero_lt_succ 5⟩⟩
  move _ _ _ := flowSound_move

/-- Settles O52: both are invariants. -/
theorem stepKeepsQueuesAndUpstreamHold : Obligations.StepKeepsQueuesAndUpstreamHold :=
  ⟨fun _ _ => queuesBounded_invariant.step, fun _ _ => flowSound_invariant.step⟩

/-! ### The conservation of forward frames (R106) -/

theorem framesConserved_iff (s : State) : FramesConserved s ↔ s.counters.uAccepted =
    s.counters.dForwarded + s.counters.blocked + s.counters.duplicates +
      BitVec.ofNat 32 (s.ingress.length + framesAtIntake s + s.egress.length) := Iff.rfl

theorem forwardSound_controlBlind : ControlBlind ForwardSound where
  banks _ _ _ _ _ _ _ _ _ _ _ _ hs := hs
  notice s t hs h := by
    obtain ⟨n, q, rfl, -⟩ := h
    exact hs

theorem framesAtIntake_of_free {s : State} (h : s.intake = .free) : framesAtIntake s = 0 := by simp [framesAtIntake, h]

theorem framesAtIntake_of_waiting {s : State} {f : ForwardFrame} (h : s.intake = .waiting f) : framesAtIntake s = 1 := by
  simp [framesAtIntake, h]

theorem framesAtIntake_of_correcting {s : State} (h : s.intake = .correcting) : framesAtIntake s = 1 := by
  simp [framesAtIntake, h]

theorem stageFollows_of_idle {s : State} (hintake : s.intake ≠ .correcting) (hstage : s.stage = .idle) : StageFollowsIntake s :=
  ⟨fun h => absurd h hintake, fun h => absurd hstage h⟩

theorem stageFollows_of_busy {s : State} (hintake : s.intake = .correcting) (hstage : s.stage ≠ .idle) : StageFollowsIntake s :=
  ⟨fun _ => hstage, fun _ => hintake⟩

theorem stage_of_free {s : State} (hs : StageFollowsIntake s) (hfree : s.intake = .free) : s.stage = .idle := by
  by_contra hbusy
  have := hs.mpr hbusy
  rw [hfree] at this
  cases this

/-- R106: one frame more is accepted, or counted out, as one frame more or less is held. -/
theorem forwardSound_of_balance {s t : State} (hs : ForwardSound s) (hrun : s.held = false) (hstage : StageFollowsIntake t)
    {accepted left : Nat} (haccepted : t.counters.uAccepted = s.counters.uAccepted + BitVec.ofNat 32 accepted)
    (hleft : t.counters.dForwarded + t.counters.blocked + t.counters.duplicates =
      s.counters.dForwarded + s.counters.blocked + s.counters.duplicates + BitVec.ofNat 32 left)
    (hheld : framesHeld t + left = framesHeld s + accepted) : ForwardSound t := by
  refine ⟨hstage, fun _ => ?_⟩
  have hconserved : s.counters.uAccepted = _ := hs.2 hrun
  have hcount : BitVec.ofNat 32 (framesHeld t) + BitVec.ofNat 32 left =
      BitVec.ofNat 32 (framesHeld s) + BitVec.ofNat 32 accepted := by
    rw [← BitVec.ofNat_add, ← BitVec.ofNat_add, hheld]
  show t.counters.uAccepted = _
  grind

/-- The frame at the head of the ingress queue leaves it. -/
theorem framesHeld_of_head {s : State} {f : ForwardFrame} {rest : List ForwardFrame} (hhead : s.ingress = f :: rest)
    (hfree : s.intake = .free) : framesHeld s = rest.length + 1 + s.egress.length := by
  simp [framesHeld, hhead, framesAtIntake_of_free hfree]

theorem forwardSound_move {s t : State} (hrun : s.held = false) (hs : ForwardSound s) (h : Move s t) : ForwardSound t := by
  have hfollows := hs.1
  have hcorrecting : s.stage ≠ .idle → framesAtIntake s = 1 := fun hbusy => framesAtIntake_of_correcting (hfollows.mpr hbusy)
  cases h with
  | control h => exact forwardSound_controlBlind.move hs h
  | form => exact forwardSound_controlBlind.notice _ _ hs (offerNotice_step s)
  | raise => exact forwardSound_controlBlind.notice _ _ hs (raiseCompletion_step _ _ s)
  | overrun => exact forwardSound_controlBlind.notice _ _ hs (reportOverrun_step s)
  | sequence => exact forwardSound_controlBlind.notice _ _ hs (reportSequence_step _ s)
  | answer => obtain ⟨_, _, _, h⟩ := offerAnswer_eq _ _ _ s; rw [h]; exact hs
  | restart => exact ⟨stageFollows_of_idle nofun rfl, fun _ => rfl⟩
  | receive port => cases port <;> exact hs
  | join f =>
    refine forwardSound_of_balance (accepted := 1) (left := 0) hs hrun hfollows rfl (by simp) ?_
    simp only [framesHeld, framesAtIntake, List.length_append, List.length_singleton]
    omega
  | pass hfree hhead =>
    have hidle := stage_of_free hfollows hfree
    obtain ⟨h, -⟩ | ⟨h, -⟩ := passUnchanged_eq _ (removeIngressHead _ s) <;> rw [h]
    · refine forwardSound_of_balance (accepted := 0) (left := 0) hs hrun hfollows (by simp) (by simp) ?_
      rw [framesHeld_of_head hhead hfree]
      simp [framesHeld, framesAtIntake, hfree]
      omega
    · refine forwardSound_of_balance (accepted := 0) (left := 0) hs hrun (stageFollows_of_idle nofun hidle) (by simp) (by simp) ?_
      rw [framesHeld_of_head hhead hfree]
      rfl
  | block hfree hhead =>
    refine forwardSound_of_balance (accepted := 0) (left := 1) hs hrun hfollows (by simp) (by grind) ?_
    rw [framesHeld_of_head hhead hfree]
    simp [framesHeld, framesAtIntake, hfree]
    omega
  | bind hfree hhead =>
    refine forwardSound_of_balance (accepted := 0) (left := 0) hs hrun (stageFollows_of_busy rfl nofun) (by simp) (by simp) ?_
    rw [framesHeld_of_head hhead hfree]
    rfl
  | place hwaiting =>
    have hidle : s.stage = .idle := by
      by_contra hbusy
      have := hfollows.mpr hbusy
      rw [hwaiting] at this
      cases this
    refine forwardSound_of_balance (accepted := 0) (left := 0) hs hrun (stageFollows_of_idle nofun hidle) (by simp) (by simp) ?_
    simp only [framesHeld, framesAtIntake, hwaiting, List.length_append, List.length_singleton]
    omega
  | discard hbound =>
    refine forwardSound_of_balance (accepted := 0) (left := 1) hs hrun (stageFollows_of_idle nofun rfl) (by simp) (by grind) ?_
    have hheld : framesHeld s = s.ingress.length + 1 + s.egress.length := by rw [framesHeld, hcorrecting (by simp [hbound])]
    rw [hheld]
    show s.ingress.length + 0 + s.egress.length + 1 = _
    omega
  | deliver _ hbusy =>
    refine forwardSound_of_balance (accepted := 0) (left := 0) hs hrun (stageFollows_of_idle nofun rfl) (by simp) (by simp) ?_
    have hheld : framesHeld s = s.ingress.length + 1 + s.egress.length := by rw [framesHeld, hcorrecting hbusy]
    rw [hheld]
    show s.ingress.length + 0 + (s.egress ++ [_]).length + 0 = _
    rw [List.length_append, List.length_singleton]
    omega
  | stall _ hbound =>
    have hcorrects : s.intake = .correcting := hfollows.mpr (by simp [hbound])
    exact ⟨stageFollows_of_busy hcorrects nofun, hs.2⟩
  | startForward =>
    unfold startForward
    split
    next => exact hs
    next hhead =>
      refine forwardSound_of_balance (accepted := 0) (left := 1) hs hrun hfollows (by simp) (by grind) ?_
      simp only [framesHeld, framesAtIntake, hhead, List.length_cons]
      omega
  | startLocal => unfold startLocal; split <;> exact hs
  | _ => exact hs

theorem forwardSound_invariant : Invariant ForwardSound where
  commands _ _ hs := hs
  pins _ _ hs := hs
  hardReset s _ := ⟨stageFollows_of_idle nofun rfl, nofun⟩
  release _ _ _ := ⟨stageFollows_of_idle nofun rfl, fun _ => rfl⟩
  move _ _ := forwardSound_move

/-- Settles O53: the conservation of forward frames is an invariant. -/
theorem stepConservesForwardFrames : Obligations.StepConservesForwardFrames := fun _ _ => forwardSound_invariant.step

/-! ### The restart handshake (R126, R140, R141) -/

/-- How many OK responses to a RESTART wait in the local queue. -/
def restartsWaiting (q : List LocalFrame) : Nat := (q.filter fun f => isRestartResponse (.ofLocal f)).length

/-- Whether the frame in transmission is the OK response to a RESTART. -/
def restartsSending : Send DFrame → Nat
  | .sending f => if isRestartResponse f then 1 else 0
  | .ready => 0

theorem restartResponses_eq (s : State) : restartResponses s = restartsWaiting s.localQ + restartsSending s.dTx.send := rfl

theorem restartsWaiting_join (q : List LocalFrame) (f : LocalFrame) :
    restartsWaiting (q ++ [f]) = restartsWaiting q + if isRestartResponse (.ofLocal f) then 1 else 0 := by
  cases h : isRestartResponse (.ofLocal f) <;> simp [restartsWaiting, h]

theorem restartsWaiting_cons (f : LocalFrame) (q : List LocalFrame) :
    restartsWaiting (f :: q) = restartsWaiting q + if isRestartResponse (.ofLocal f) then 1 else 0 := by
  cases h : isRestartResponse (.ofLocal f) <;> simp [restartsWaiting, h]

/-- What the engine's state asks of the responses on their way. -/
def HandshakeSound (n : Nat) : Engine → Prop
  | .idle => n = 0
  | .restarting _ => n = 1
  | .holding h => n = 0 ∧ (h.response.isSome = true ∨ h.successor.isSome = true) ∧
      (h.restart.isSome = h.response.any fun r => isRestartResponse (.ofLocal (.response r))) ∧
      (h.restart.isSome = true → h.successor = none)

theorem restartSound_iff (s : State) :
    RestartSound s ↔ (s.held = false → HandshakeSound (restartResponses s) s.engine) := by
  unfold RestartSound HandshakeSound
  cases s.engine <;> rfl

theorem restartSound_of_same {s t : State} (hs : RestartSound s) (hheld : t.held = s.held) (hengine : t.engine = s.engine)
    (hresponses : restartResponses t = restartResponses s) : RestartSound t := by
  rw [restartSound_iff] at hs ⊢
  rw [hheld, hengine, hresponses]
  exact hs

theorem restartSound_controlBlind : ControlBlind RestartSound where
  banks _ _ _ _ _ _ _ _ _ _ _ _ hs := hs
  notice s t hs h := by
    refine restartSound_of_same hs h.held h.engine ?_
    rw [restartResponses_eq, restartResponses_eq, h.dTx]
    obtain ⟨n, q, rfl, rfl | ⟨f, rfl, -⟩⟩ := h
    · rw [List.append_nil]
    · rw [restartsWaiting_join]; rfl

/-- R126: what the engine still holds, or waits for, once a frame of it has found its place. -/
theorem handshakeSound_engineHolding {n : Nat} {h : Held}
    (hform : h.restart.isSome = true → h.response = none → n = 1)
    (hrest : h.restart = none ∨ h.response.isSome = true → n = 0)
    (hmatch : h.response.isSome = true → h.restart.isSome = h.response.any fun r => isRestartResponse (.ofLocal (.response r)))
    (halone : h.restart.isSome = true → h.successor = none) : HandshakeSound n (engineHolding h) := by
  obtain ⟨_ | response, _ | successor, _ | form⟩ := h
  · exact hrest (.inl rfl)
  · exact hform rfl rfl
  · exact ⟨hrest (.inl rfl), .inr rfl, rfl, halone⟩
  · cases halone rfl
  all_goals exact ⟨hrest (.inr rfl), .inl rfl, hmatch rfl, halone⟩

theorem offerAnswer_localQ (response : ResponseFrame) (successor : Option EnumFrame) (restart : Option RestartForm) (s : State) :
    (offerAnswer response successor restart s).localQ =
      if responseRoom s then s.localQ ++ [.response response] else s.localQ := by
  unfold offerAnswer
  cases responseRoom s <;> cases successor <;> cases reverseRoom s <;> rfl

/-- R134, R140: the answer of an IDLE engine. -/
theorem restartSound_offerAnswer {response : ResponseFrame} {successor : Option EnumFrame} {restart : Option RestartForm}
    {s : State} (hs : RestartSound s) (hidle : s.engine = .idle)
    (hrestart : restart.isSome = isRestartResponse (.ofLocal (.response response)))
    (halone : restart.isSome = true → successor = none) : RestartSound (offerAnswer response successor restart s) := by
  rw [restartSound_iff] at hs ⊢
  intro hrun
  have hsend : (offerAnswer response successor restart s).dTx = s.dTx := by
    obtain ⟨_, _, _, h⟩ := offerAnswer_eq response successor restart s
    rw [h]
  have hnone : restartResponses s = 0 := by
    have := hs (by obtain ⟨_, _, _, h⟩ := offerAnswer_eq response successor restart s; rw [h] at hrun; exact hrun)
    rwa [hidle] at this
  have hresponses : restartResponses (offerAnswer response successor restart s) =
      if responseRoom s = true ∧ restart.isSome = true then 1 else 0 := by
    rw [restartResponses_eq, offerAnswer_localQ, hsend, hrestart]
    rw [restartResponses_eq] at hnone
    cases responseRoom s <;> simp [restartsWaiting_join] <;> omega
  rw [hresponses]
  refine handshakeSound_engineHolding (fun hform hentered => ?_) (fun hrest => ?_) (fun hheld => ?_) fun hform => ?_
  · have hroom : responseRoom s = true := by
      by_contra hfull
      simp [hfull] at hentered
    exact if_pos ⟨hroom, hform⟩
  · refine if_neg fun ⟨hroom, hform⟩ => ?_
    simp only [hroom, if_true, Option.isSome_none, Bool.false_eq_true, or_false] at hrest
    rw [hrest] at hform
    cases hform
  · cases hroom : responseRoom s <;> simp only [hroom] at hheld ⊢
    · exact hrestart
    · cases hheld
  · simp only [halone hform, ite_self]

/-- R126: the frame that a HOLDING engine holds finds its place. -/
theorem restartSound_responseEnters {s : State} {h : Held} {r : ResponseFrame} (hs : RestartSound s)
    (hholding : s.engine = .holding h) (hresponse : h.response = some r) :
    RestartSound { pushLocal (.response r) s with engine := engineHolding { h with response := none } } := by
  rw [restartSound_iff] at hs ⊢
  intro hrun
  have hsound := hs hrun
  rw [hholding] at hsound
  obtain ⟨hnone, -, hmatch, halone⟩ := hsound
  rw [hresponse, Option.any_some] at hmatch
  have hcount : restartResponses { pushLocal (.response r) s with engine := engineHolding { h with response := none } } =
      if h.restart.isSome = true then 1 else 0 := by
    rw [restartResponses_eq] at hnone ⊢
    simp only [pushLocal_localQ, restartsWaiting_join, pushLocal_dTx, ← hmatch]
    omega
  rw [hcount]
  refine handshakeSound_engineHolding (fun hform _ => if_pos hform) (fun hrest => ?_) nofun halone
  obtain hrest | hrest := hrest
  · rw [hrest]; rfl
  · cases hrest

theorem restartSound_successorEnters {s : State} {h : Held} {e : EnumFrame} (hs : RestartSound s)
    (hholding : s.engine = .holding h) (hsuccessor : h.successor = some e) :
    RestartSound { s with reverseQ := s.reverseQ ++ [.enumerate e], engine := engineHolding { h with successor := none } } := by
  rw [restartSound_iff] at hs ⊢
  intro hrun
  have hsound := hs hrun
  rw [hholding] at hsound
  obtain ⟨hnone, -, hmatch, halone⟩ := hsound
  refine handshakeSound_engineHolding (fun hform _ => ?_) (fun _ => hnone) (fun _ => hmatch) fun _ => rfl
  rw [halone hform] at hsuccessor
  cases hsuccessor

theorem restartSound_move {s t : State} (hs : RestartSound s) (h : Move s t) : RestartSound t := by
  cases h with
  | control h => exact restartSound_controlBlind.move hs h
  | form => exact restartSound_controlBlind.notice _ _ hs (offerNotice_step s)
  | raise => exact restartSound_controlBlind.notice _ _ hs (raiseCompletion_step _ _ s)
  | overrun => exact restartSound_controlBlind.notice _ _ hs (reportOverrun_step s)
  | sequence => exact restartSound_controlBlind.notice _ _ hs (reportSequence_step _ s)
  | answer response successor restart hidle hrestart halone => exact restartSound_offerAnswer hs hidle hrestart halone
  | responseEnters hholding hresponse => exact restartSound_responseEnters hs hholding hresponse
  | successorEnters hholding hsuccessor => exact restartSound_successorEnters hs hholding hsuccessor
  | restart => exact fun _ => rfl
  | receive port => cases port <;> exact hs
  | pass => obtain ⟨h, -⟩ | ⟨h, -⟩ := passUnchanged_eq _ (removeIngressHead _ s) <;> rw [h] <;> exact hs
  | startForward hready =>
    unfold startForward
    split
    next => exact hs
    next => exact restartSound_of_same hs rfl rfl (by rw [restartResponses_eq, restartResponses_eq, hready]; rfl)
  | startLocal hready =>
    unfold startLocal
    split
    next => exact hs
    next hhead =>
      refine restartSound_of_same hs rfl rfl ?_
      rw [restartResponses_eq, restartResponses_eq, hready, hhead, restartsWaiting_cons]
      rfl
  | @sent f hsend hother =>
    refine (restartSound_iff _).mpr fun hrun => ?_
    have hsound := (restartSound_iff s).mp hs hrun
    have hresponse : isRestartResponse f = false := by
      by_contra hresponse
      have hcount : restartResponses s = restartsWaiting s.localQ + 1 := by
        rw [restartResponses_eq, hsend, restartsSending, if_pos (Bool.not_eq_false _ ▸ hresponse)]
      rw [hcount] at hsound
      revert hsound
      cases hengine : s.engine with
      | idle => exact nofun
      | restarting form => exact fun _ => hresponse (hother form hengine)
      | holding h => exact fun hsound => nomatch hsound.1
    have hcount : restartResponses s = restartResponses { s with dTx := { s.dTx with send := .ready, lane := .idle } } := by
      rw [restartResponses_eq, restartResponses_eq, hsend, restartsSending, hresponse]
      rfl
    exact hcount ▸ hsound
  | _ => exact hs

theorem restartSound_invariant : Invariant RestartSound where
  commands _ _ hs := hs
  pins _ _ hs := hs
  hardReset _ _ := nofun
  release _ _ _ := fun _ => rfl
  move _ _ _ := restartSound_move

/-- Settles O59: the handshake is an invariant. -/
theorem stepKeepsTheRestartHandshake : Obligations.StepKeepsTheRestartHandshake := fun _ _ => restartSound_invariant.step

end Sys2Proof.Machine

/-! O54, O55, O56: the binding of the correction stage, the bank in service and the curve spans. -/

namespace Sys2Proof.Machine

/-! ### What the outer moves leave alone -/

/-- What the bank controller, the store controller and the start-up logic hold. -/
def controlPlaces (s : State) : Bool × Mode × Option BootRecord × Bank × Bank × BankName × Shadow × Option CommitRecord ×
    StoreController × NvStore :=
  (s.held, s.mode, s.boot, s.bankA, s.bankB, s.active, s.shadow, s.commit, s.store, s.nv)

theorem NoticeStep.control {s t : State} (h : NoticeStep s t) : controlPlaces t = controlPlaces s := by
  obtain ⟨n, q, rfl, -⟩ := h
  rfl

/-- Outside the control moves only the restart changes the places of the control. -/
theorem Move.control_cases {s t : State} (h : Move s t) : controlPlaces t = controlPlaces s ∨
    (∃ form u, controlPlaces u = controlPlaces s ∧ t = beginRestart form u) ∨ ControlMove s t := by
  cases h with
  | control h => exact .inr (.inr h)
  | restart => exact .inr (.inl ⟨_, { s with dTx := { s.dTx with send := .ready, lane := .idle } }, rfl, rfl⟩)
  | form => exact .inl (offerNotice_step s).control
  | raise => exact .inl (raiseCompletion_step _ _ s).control
  | overrun => exact .inl (reportOverrun_step s).control
  | sequence => exact .inl (reportSequence_step _ s).control
  | answer => obtain ⟨_, _, _, h⟩ := offerAnswer_eq _ _ _ s; rw [h]; exact .inl rfl
  | receive port => cases port <;> exact .inl rfl
  | pass => obtain ⟨h, -⟩ | ⟨h, -⟩ := passUnchanged_eq _ (removeIngressHead _ s) <;> rw [h] <;> exact .inl rfl
  | startForward => unfold Machine.startForward; split <;> exact .inl rfl
  | startLocal => unfold Machine.startLocal; split <;> exact .inl rfl
  | _ => exact .inl rfl

/-- An invariant that reads the places of the control alone is kept when the control moves and the restart keep it. -/
theorem Move.keeps_control {P : State → Prop} (hplaces : ∀ s t, controlPlaces t = controlPlaces s → P s → P t)
    (hrestart : ∀ form s, P s → P (beginRestart form s)) {s t : State} (hcontrol : ControlMove s t → P t) (hs : P s)
    (h : Move s t) : P t := by
  obtain h | ⟨form, u, hu, rfl⟩ | h := h.control_cases
  · exact hplaces _ _ h hs
  · exact hrestart form u (hplaces _ _ hu hs)
  · exact hcontrol h

/-! ### The curve spans (R9) -/

theorem banksSound_of_places (s t : State) (h : controlPlaces t = controlPlaces s) (hs : BanksSound s) : BanksSound t := by
  cases s; cases t
  simp only [controlPlaces, Prod.mk.injEq] at h
  obtain ⟨rfl, rfl, rfl, rfl, rfl, rfl, rfl, rfl, rfl, rfl⟩ := h
  exact hs

theorem wellFormed_shadowBank {s : State} (hs : BanksSound s) : (shadowBank s).wellFormed := by
  unfold shadowBank
  cases s.active.other
  exacts [hs.1, hs.2]

theorem wellFormed_activeBank {s : State} (hs : BanksSound s) : (activeBank s).wellFormed := by
  unfold activeBank
  cases s.active
  exacts [hs.1, hs.2]

theorem banksSound_setShadowBank {b : Bank} {s : State} (hs : BanksSound s) (hb : b.wellFormed) :
    BanksSound (setShadowBank b s) := by
  unfold setShadowBank
  split
  exacts [⟨hs.1, hb⟩, ⟨hb, hs.2⟩]

theorem wellFormed_recordEmits {b : Bank} (hb : b.wellFormed) : (recordEmits b).wellFormed := wellFormed_of_curves rfl hb

theorem banksSound_of_notice {s t : State} (hs : BanksSound s) (h : NoticeStep s t) : BanksSound t :=
  banksSound_of_places _ _ h.control hs

theorem banksSound_swap {s : State} (hs : BanksSound s) : BanksSound (swap s) := by
  obtain ⟨_, _, _, _, h⟩ := swap_eq s
  rw [h]
  exact hs

theorem banksSound_endCommit (what : Completion) {s : State} (hs : BanksSound s) : BanksSound (endCommit what s) := by
  unfold endCommit
  dsimp only
  split
  · exact banksSound_of_notice (s := { s with shadow := .editable, commit := none }) hs (raiseCompletion_step _ _ _)
  · exact hs

theorem banksSound_chooseCandidate {s : State} (hs : BanksSound s) : BanksSound (chooseCandidate s) := by
  unfold chooseCandidate
  split
  next => exact hs
  next =>
    split
    · exact hs
    · exact banksSound_of_notice (s := { setShadowBank Bank.empty s with shadow := .editable, mode := .running, boot := none })
        (banksSound_setShadowBank hs wellFormed_empty) (reportBoot_step _ _)

theorem shadowAfterEnd_cases (s : State) : shadowAfterEnd s = Bank.empty ∨ shadowAfterEnd s = shadowBank s := by
  unfold shadowAfterEnd
  split
  exacts [.inl rfl, .inl rfl, .inr rfl, .inr rfl, .inr rfl]

theorem banksSound_endBankWork {s : State} (hs : BanksSound s) : BanksSound (endBankWork s) := by
  rw [endBankWork_eq]
  obtain h | h := shadowAfterEnd_cases s <;> rw [h]
  · exact banksSound_setShadowBank hs wellFormed_empty
  · exact banksSound_setShadowBank hs (wellFormed_shadowBank hs)

theorem banksSound_control {s t : State} (hs : BanksSound s) (h : ControlMove s t) : BanksSound t := by
  have hrecorded := wellFormed_recordEmits (wellFormed_shadowBank hs)
  cases h with
  | write _ _ hcurves => exact banksSound_setShadowBank hs (hcurves (wellFormed_shadowBank hs))
  | copied => exact banksSound_setShadowBank hs (wellFormed_activeBank hs)
  | record => exact banksSound_setShadowBank hs hrecorded
  | arm => exact banksSound_setShadowBank hs hrecorded
  | armNow => exact banksSound_swap (banksSound_setShadowBank hs hrecorded)
  | swap => exact banksSound_swap hs
  | bootTestFailed => exact banksSound_chooseCandidate (banksSound_endCommit _ hs)
  | loaded _ hcurves => exact banksSound_setShadowBank (s := endLoad _ s) hs hcurves
  | bootLoaded _ hcurves => exact banksSound_setShadowBank (s := endLoad _ s) hs hcurves
  | bootLoadFailed | bootScanned => exact banksSound_chooseCandidate hs
  | keptScanned => exact banksSound_of_notice (s := scanned s) hs (reportBoot_step _ _)
  | _ => exact hs

theorem banksSound_invariant : Invariant BanksSound where
  commands _ _ hs := hs
  pins _ _ hs := hs
  hardReset _ hs := banksSound_endBankWork hs
  release _ _ _ := ⟨wellFormed_empty, wellFormed_empty⟩
  move _ _ _ hs := Move.keeps_control banksSound_of_places (fun _ _ hs => banksSound_endBankWork hs) (banksSound_control hs) hs

/-- Settles O56: the curve spans are an invariant. -/
theorem stepKeepsCurveSpansInThePool : Obligations.StepKeepsCurveSpansInThePool := fun _ _ => banksSound_invariant.step

/-! ### The test and the emit counts (R15 to R20) -/

@[simp] theorem modeOf_recordEmits (b : Bank) (g : Fin 16) : modeOf (recordEmits b) g = modeOf b g := by
  simp [modeOf, recordEmits]

@[simp] theorem recordEmits_out (b : Bank) (g : Fin 16) : ((recordEmits b).groups[g]).out = (b.groups[g]).out := by
  simp [recordEmits]

@[simp] theorem recordEmits_emit (b : Bank) (g : Fin 16) : ((recordEmits b).groups[g]).emit = emitCount b g := by
  simp [recordEmits]

@[simp] theorem usedSlots_recordEmits (b : Bank) : usedSlots (recordEmits b) = usedSlots b := rfl

@[simp] theorem groupSlots_recordEmits (b : Bank) (g : Fin 16) : groupSlots (recordEmits b) g = groupSlots b g := rfl

theorem emitCount_recordEmits (b : Bank) (g : Fin 16) : emitCount (recordEmits b) g = emitCount b g := by
  simp only [emitCount, modeOf_recordEmits, groupSlots_recordEmits]

theorem recordEmits_groups (b : Bank) (g : Fin 16) :
    (recordEmits b).groups[g] = { b.groups[g] with emit := emitCount b g } := by simp [recordEmits]

theorem recordEmits_eq_of_groups {b : Bank} (h : (recordEmits b).groups = b.groups) : recordEmits b = b := by
  obtain ⟨groups, slots, curves, points⟩ := b
  exact congrArg (Bank.mk · slots curves points) h

/-- R20: recording the emit counts a second time changes nothing. -/
theorem recordEmits_recordEmits (b : Bank) : recordEmits (recordEmits b) = recordEmits b := by
  have hgroups : (recordEmits (recordEmits b)).groups = (recordEmits b).groups := by
    refine Vector.ext fun i hi => ?_
    have houter := recordEmits_groups (recordEmits b) ⟨i, hi⟩
    have hinner := recordEmits_groups b ⟨i, hi⟩
    rw [emitCount_recordEmits, hinner] at houter
    exact houter.trans hinner.symm
  exact recordEmits_eq_of_groups hgroups

theorem curveFault_recordEmits (b : Bank) : curveFault (recordEmits b) = curveFault b := rfl

theorem slotFault_recordEmits (b : Bank) : slotFault (recordEmits b) = slotFault b := by
  funext s
  simp only [slotFault, modeOf_recordEmits, usedSlots_recordEmits]
  rfl

theorem emittedNumber_recordEmits (b : Bank) : emittedNumber (recordEmits b) = emittedNumber b := by
  funext g
  simp only [emittedNumber, modeOf_recordEmits, recordEmits_out]

theorem groupFault_recordEmits (b : Bank) : groupFault (recordEmits b) = groupFault b := by
  funext g
  simp only [groupFault, modeOf_recordEmits, groupSlots_recordEmits, emittedNumber_recordEmits]

/-- R20: the emit counts are not tested. -/
theorem testBank_recordEmits (b : Bank) : testBank (recordEmits b) = testBank b := by
  simp only [testBank, curveFault_recordEmits, slotFault_recordEmits, groupFault_recordEmits]

theorem inService_recordEmits {b : Bank} (h : testBank b = none) : InService (recordEmits b) :=
  ⟨(testBank_recordEmits b).trans h, recordEmits_recordEmits b⟩

theorem usedSlots_empty : usedSlots Bank.empty = [] := by
  simp [usedSlots, Bank.empty]

theorem modeOf_empty (g : Fin 16) : modeOf Bank.empty g = .bypass := by simp [modeOf, Bank.empty]

/-- R13: no check of the empty bank fails; its groups emit under their own numbers. -/
theorem testBank_empty : testBank Bank.empty = none := by
  have hcurves : ∀ c, curveFault Bank.empty c = none := fun c => by simp [curveFault, Bank.empty]
  have hslots : ∀ s, slotFault Bank.empty s = none := fun s => by simp [slotFault, Bank.empty]
  have hemits : ∀ g, emittedNumber Bank.empty g = some g := fun g => by simp [emittedNumber, modeOf_empty]
  have hgroups : ∀ g, groupFault Bank.empty g = none := fun g => by
    simp +contextual [groupFault, modeOf_empty, hemits]
  simp [testBank, List.findSome?_eq_none_iff, hcurves, hslots, hgroups]

theorem recordEmits_empty : recordEmits Bank.empty = Bank.empty := by
  have hgroups : (recordEmits Bank.empty).groups = Bank.empty.groups := by
    refine Vector.ext fun i hi => ?_
    have h := recordEmits_groups Bank.empty ⟨i, hi⟩
    rw [emitCount, modeOf_empty] at h
    refine h.trans ?_
    simp [Bank.empty]
  exact recordEmits_eq_of_groups hgroups

theorem inService_empty : InService Bank.empty := ⟨testBank_empty, recordEmits_empty⟩

/-! ### The bank in service (R5, R46) -/

theorem activeSound_of_places (s t : State) (h : controlPlaces t = controlPlaces s) (hs : ActiveSound s) : ActiveSound t := by
  cases s; cases t
  simp only [controlPlaces, Prod.mk.injEq] at h
  obtain ⟨rfl, rfl, rfl, rfl, rfl, rfl, rfl, rfl, rfl, rfl⟩ := h
  exact hs

theorem activeSound_of_notice {s t : State} (hs : ActiveSound s) (h : NoticeStep s t) : ActiveSound t :=
  activeSound_of_places _ _ h.control hs

/-- The shadow takes new content while it is not ARMED. -/
theorem activeSound_setShadowBank {s : State} (b : Bank) (hs : ActiveSound s) (hshadow : s.shadow ≠ .armed) :
    ActiveSound (setShadowBank b s) := by
  refine ⟨(activeBank_setShadowBank b s).symm ▸ hs.1, fun h => ?_⟩
  rw [setShadowBank_shadow] at h
  exact absurd h hshadow

/-- R60: the shadow that is ARMED takes the ACTIVE role. -/
theorem inService_activeBank_swap {s : State} (hshadow : InService (shadowBank s)) : InService (activeBank (swap s)) := by
  obtain ⟨_, _, _, _, h⟩ := swap_eq s
  rw [h]
  exact hshadow

theorem swap_shadow (s : State) : (swap s).shadow = .editable := by
  obtain ⟨_, _, _, _, h⟩ := swap_eq s
  rw [h]

theorem activeSound_swap {s : State} (hshadow : InService (shadowBank s)) : ActiveSound (swap s) :=
  ⟨inService_activeBank_swap hshadow, fun h => by rw [swap_shadow] at h; cases h⟩

theorem activeSound_endCommit (what : Completion) {s : State} (hs : ActiveSound s) : ActiveSound (endCommit what s) := by
  have hended : ActiveSound { s with shadow := .editable, commit := none } := ⟨hs.1, nofun⟩
  unfold endCommit
  dsimp only
  split
  · exact activeSound_of_notice hended (raiseCompletion_step _ _ _)
  · exact hended

theorem activeSound_chooseCandidate {s : State} (hs : ActiveSound s) : ActiveSound (chooseCandidate s) := by
  unfold chooseCandidate
  split
  next => exact hs
  next =>
    split
    · exact ⟨hs.1, nofun⟩
    · have hended : ActiveSound { setShadowBank Bank.empty s with shadow := .editable, mode := .running, boot := none } :=
        ⟨(activeBank_setShadowBank Bank.empty s).symm ▸ hs.1, nofun⟩
      exact activeSound_of_notice hended (reportBoot_step _ _)

theorem activeBank_endBankWork (s : State) : activeBank (endBankWork s) = activeBank s := by
  rw [endBankWork_eq]
  exact activeBank_setShadowBank _ s

theorem activeSound_control {s t : State} (hs : ActiveSound s) (h : ControlMove s t) : ActiveSound t := by
  cases h with
  | write b heditable => exact activeSound_setShadowBank b hs (by simp [heditable])
  | copied => exact ⟨(activeBank_setShadowBank _ s).symm ▸ hs.1, nofun⟩
  | record hvalidating => exact activeSound_setShadowBank _ hs (by simp [hvalidating])
  | arm _ _ hpassed =>
    refine ⟨(activeBank_setShadowBank _ s).symm ▸ hs.1, fun _ => ?_⟩
    exact (shadowBank_setShadowBank _ s).symm ▸ inService_recordEmits hpassed
  | armNow _ _ hpassed =>
    exact activeSound_swap (s := arm s) ((shadowBank_setShadowBank _ s).symm ▸ inService_recordEmits hpassed)
  | swap harmed => exact activeSound_swap (hs.2 harmed)
  | bootTestFailed => exact activeSound_chooseCandidate (activeSound_endCommit _ hs)
  | loaded => exact activeSound_setShadowBank _ (s := endLoad _ s) ⟨hs.1, nofun⟩ nofun
  | bootLoaded => exact ⟨(activeBank_setShadowBank _ (endLoad _ s)).symm ▸ hs.1, nofun⟩
  | bootLoadFailed => exact activeSound_chooseCandidate ⟨hs.1, nofun⟩
  | bootScanned => exact activeSound_chooseCandidate hs
  | keptScanned => exact activeSound_of_notice (s := scanned s) hs (reportBoot_step _ _)
  | copy | validate | validated | commit | endCommit | load | loadFailed => exact ⟨hs.1, nofun⟩
  | _ => exact hs

theorem activeSound_invariant : Invariant ActiveSound where
  commands _ _ hs := hs
  pins _ _ hs := hs
  hardReset s hs := ⟨(activeBank_endBankWork s).symm ▸ hs.1, nofun⟩
  release _ _ _ := ⟨inService_empty, nofun⟩
  move _ _ _ hs := Move.keeps_control activeSound_of_places
    (fun _ s hs => ⟨(activeBank_endBankWork s).symm ▸ hs.1, nofun⟩) (activeSound_control hs) hs

/-! ### No command writes the bank that is ACTIVE (R46, R48) -/

/-- The bank that was ACTIVE before has its content, and is ACTIVE still. -/
def ActiveKept (s t : State) : Prop := t.active = s.active ∧ activeBank t = activeBank s

theorem ActiveKept.rfl {s : State} : ActiveKept s s := ⟨Eq.refl _, Eq.refl _⟩

theorem ActiveKept.trans {s t u : State} (h : ActiveKept s t) (h' : ActiveKept t u) : ActiveKept s u :=
  ⟨h'.1.trans h.1, h'.2.trans h.2⟩

theorem ActiveKept.bankNamed {s t : State} (h : ActiveKept s t) : bankNamed t s.active = activeBank s := h.1 ▸ h.2

theorem ActiveKept.of_places {s t : State} (h : controlPlaces t = controlPlaces s) : ActiveKept s t := by
  cases s; cases t
  simp only [controlPlaces, Prod.mk.injEq] at h
  obtain ⟨rfl, rfl, rfl, rfl, rfl, rfl, rfl, rfl, rfl, rfl⟩ := h
  exact .rfl

theorem ActiveKept.setShadowBank (b : Bank) (s : State) : ActiveKept s (setShadowBank b s) :=
  ⟨setShadowBank_active b s, activeBank_setShadowBank b s⟩

theorem ActiveKept.chooseCandidate (s : State) : ActiveKept s (chooseCandidate s) := by
  unfold Machine.chooseCandidate
  split
  next => exact .rfl
  next =>
    split
    · exact .rfl
    · exact .trans (t := { Machine.setShadowBank Bank.empty s with shadow := .editable, mode := .running, boot := none })
        (.setShadowBank Bank.empty s) (.of_places (reportBoot_step _ _).control)

theorem ActiveKept.endCommit (what : Completion) (s : State) : ActiveKept s (endCommit what s) := by
  unfold Machine.endCommit
  dsimp only
  split
  · exact .of_places (s := { s with shadow := .editable, commit := none }) (raiseCompletion_step _ _ _).control
  · exact .rfl

theorem ActiveKept.endBankWork (s : State) : ActiveKept s (endBankWork s) := by
  rw [endBankWork_eq]
  exact .setShadowBank _ s

theorem ActiveKept.of_notice {s t : State} (h : NoticeStep s t) : ActiveKept s t := .of_places h.control

/-- R48, R60: a control move keeps the ACTIVE bank in its role, or is a swap between frames. -/
theorem ControlMove.active {s t : State} (h : ControlMove s t) : ActiveKept s t ∨ s.stage = .idle ∨ s.intake = .free := by
  cases h with
  | armNow _ _ _ hidle => exact .inr (.inl hidle)
  | swap _ hbetween => exact .inr hbetween
  | write => exact .inl (.setShadowBank _ s)
  | copied => exact .inl (.setShadowBank _ s)
  | record => exact .inl (.setShadowBank _ s)
  | arm => exact .inl (.setShadowBank _ s)
  | bootTestFailed => exact .inl ((ActiveKept.endCommit _ s).trans (.chooseCandidate _))
  | loaded => exact .inl (.setShadowBank _ (endLoad _ s))
  | bootLoaded => exact .inl (.setShadowBank _ (endLoad _ s))
  | bootLoadFailed => exact .inl (.chooseCandidate (setEntry _ _ (endLoad _ s)))
  | bootScanned => exact .inl (.chooseCandidate (scanned s))
  | keptScanned => exact .inl (.of_notice (s := scanned s) (reportBoot_step _ _))
  | _ => exact .inl .rfl

/-- Both banks have their content still. -/
def BanksKept (s t : State) : Prop := t.bankA = s.bankA ∧ t.bankB = s.bankB

theorem BanksKept.trans {s t u : State} (h : BanksKept s t) (h' : BanksKept t u) : BanksKept s u :=
  ⟨h'.1.trans h.1, h'.2.trans h.2⟩

theorem BanksKept.bankNamed {s t : State} (h : BanksKept s t) : bankNamed t s.active = activeBank s := by
  obtain ⟨ha, hb⟩ := h
  unfold activeBank
  cases s.active
  exacts [ha, hb]

theorem BanksKept.of_notice {s t : State} (h : NoticeStep s t) : BanksKept s t := ⟨h.bankA, h.bankB⟩

theorem BanksKept.swap (s : State) : BanksKept s (swap s) := by
  obtain ⟨_, _, _, _, h⟩ := swap_eq s
  rw [h]
  exact ⟨rfl, rfl⟩

theorem BanksKept.betweenFrames (s : State) : BanksKept s (betweenFrames s) := by
  obtain h | h := betweenFrames_cases s <;> rw [h]
  exacts [.swap s, ⟨rfl, rfl⟩]

theorem BanksKept.swapIfTarget (f : SampleFrame) (s : State) : BanksKept s (swapIfTarget f s) := by
  obtain h | h := swapIfTarget_cases f s <;> rw [h]
  exacts [.swap s, ⟨rfl, rfl⟩]

theorem BanksKept.passUnchanged (f : ForwardFrame) (s : State) : BanksKept s (passUnchanged f s) := by
  obtain ⟨h, -⟩ | ⟨h, -⟩ := passUnchanged_eq f s <;> rw [h] <;> exact ⟨rfl, rfl⟩

theorem BanksKept.judgeByMode (f : SampleFrame) (s : State) : BanksKept s (judgeByMode f s) := by
  unfold Machine.judgeByMode
  split
  exacts [.passUnchanged _ s, ⟨rfl, rfl⟩, ⟨rfl, rfl⟩]

theorem BanksKept.deliver (out : SampleFrame) (bank : BankName) (s : State) : BanksKept s (deliver out bank s) := by
  unfold Machine.deliver
  split
  · exact .betweenFrames { s with egress := s.egress ++ [.sample out], stage := .idle, intake := .free }
  · exact ⟨rfl, rfl⟩

theorem BanksKept.acceptSequence (f : SampleFrame) (missing : Nat) (s : State) : BanksKept s (acceptSequence f missing s) := by
  unfold Machine.acceptSequence
  dsimp only
  split
  · exact ⟨rfl, rfl⟩
  · exact ⟨(reportSequence_step _ _).bankA, (reportSequence_step _ _).bankB⟩

theorem BanksKept.correctFrame (f : SampleFrame) (bank : BankName) (gap : Bool) (s : State) :
    BanksKept s (Machine.correctFrame f bank gap s) := by
  unfold Machine.correctFrame
  obtain ⟨ha, hb⟩ := BanksKept.deliver (correctedFrame (Machine.bankNamed s bank) f gap) bank
    { s with slotCounts := countedSlots (Machine.bankNamed s bank) f s.slotCounts }
  exact ⟨ha, hb⟩

theorem BanksKept.discardDuplicate (f : SampleFrame) (s : State) : BanksKept s (discardDuplicate f s) := by
  unfold Machine.discardDuplicate
  refine BanksKept.trans ?_ (.betweenFrames _)
  exact ⟨reportSequence_bankA _ _, reportSequence_bankB _ _⟩

theorem BanksKept.execCorrectionDone {s t : State} (hrun : s.held = false) (h : execCorrectionDone s = .next t) :
    BanksKept s t := by
  rw [eq_of_unlessHeld hrun h]
  split
  next f bank _ =>
    have hcorrected (gap : Bool) (missing : Nat) : BanksKept s (Machine.correctFrame f bank gap (Machine.acceptSequence f missing s)) :=
      (BanksKept.acceptSequence f missing s).trans (.correctFrame f bank gap _)
    split
    · exact .discardDuplicate f s
    · exact hcorrected false 0
    · exact hcorrected false 0
    · exact hcorrected true _
  next => exact ⟨rfl, rfl⟩

theorem BanksKept.execIntakeSampleFrame {s t : State} (hrun : s.held = false) (h : execIntakeSampleFrame s = .next t) :
    BanksKept s t := by
  rw [eq_of_unlessHeld hrun h]
  split
  next f rest _ _ =>
    dsimp only
    split
    · exact .passUnchanged _ (removeIngressHead rest s)
    · exact .trans (.swapIfTarget f (removeIngressHead rest s)) (.judgeByMode f _)
  next => exact ⟨rfl, rfl⟩

theorem BanksKept.execStalledOutputPlaced {s t : State} (hrun : s.held = false) (h : execStalledOutputPlaced s = .next t) :
    BanksKept s t := by
  rw [eq_of_unlessHeld hrun h]
  split
  next =>
    split
    · exact .deliver _ _ s
    · exact ⟨rfl, rfl⟩
  next => exact ⟨rfl, rfl⟩

theorem ActiveKept.offerAnswer (r : ResponseFrame) (successor : Option EnumFrame) (restart : Option RestartForm) (s : State) :
    ActiveKept s (Machine.offerAnswer r successor restart s) := by
  obtain ⟨_, _, _, h⟩ := offerAnswer_eq r successor restart s
  rw [h]
  exact .rfl

theorem ActiveKept.respond (f : RequestFrame) (a : Answer) (s : State) : ActiveKept s (Machine.respond f a s) := by
  have hanswer : ActiveKept s (Machine.offerAnswer (responseTo f a s) none a.restart s) := .offerAnswer _ _ _ s
  unfold Machine.respond
  dsimp only
  split
  · exact hanswer.trans (.of_notice (raiseCompletion_step _ _ _))
  · exact hanswer

theorem ActiveKept.takeRequest {r : RequestRules} {run : RequestFrame → State → State × Answer}
    (hrun : ∀ f s, ActiveKept s (run f s).1) (s : State) : ActiveKept s (takeRequest r run s) := by
  unfold Machine.takeRequest
  split
  next f rest _ _ =>
    have htaken : ActiveKept s { s with requestQ := rest } := .rfl
    split
    · dsimp only
      split
      · exact htaken.trans (.respond _ _ _)
      · exact htaken.trans ((hrun f _).trans (.respond _ _ _))
    · exact .rfl
  next => exact .rfl

theorem ActiveKept.runCancelCommit (f : RequestFrame) (s : State) : ActiveKept s (runCancelCommit f s).1 := by
  unfold Machine.runCancelCommit
  dsimp only
  split
  · exact .endCommit _ { s with freeCount := s.freeCount + 1 }
  · exact .rfl

theorem ActiveKept.runCommit (f : RequestFrame) (s : State) : ActiveKept s (runCommit f s).1 := by
  unfold Machine.runCommit
  split <;> exact .rfl

theorem clearedCounters_eq (p : List Byte) (s : State) : ∃ slotCounts groupCounts,
    clearedCounters p s = { s with slotCounts := slotCounts, groupCounts := groupCounts } := by
  unfold clearedCounters
  split <;> exact ⟨_, _, rfl⟩

theorem ActiveKept.clearedCounters (p : List Byte) (s : State) : ActiveKept s (clearedCounters p s) := by
  obtain ⟨_, _, h⟩ := clearedCounters_eq p s
  rw [h]
  exact .rfl

theorem ActiveKept.runReadCounters (f : RequestFrame) (s : State) : ActiveKept s (runReadCounters f s).1 := by
  show ActiveKept s (if param f.params 3 = 0x01 then Machine.clearedCounters f.params s else s)
  split
  exacts [.clearedCounters f.params s, .rfl]

theorem ActiveKept.execTestComplete {s t : State} (hrun : s.held = false) (h : execTestComplete s = .next t) :
    Machine.bankNamed t s.active = activeBank s := by
  have harmed : Machine.bankNamed (swapIfIdle (arm s)) s.active = activeBank s := by
    have harm : ActiveKept s (arm s) := .setShadowBank _ s
    obtain h | h : swapIfIdle (arm s) = arm s ∨ swapIfIdle (arm s) = betweenFrames (arm s) := by
      unfold swapIfIdle; split
      exacts [.inr (Eq.refl _), .inl (Eq.refl _)]
    · rw [h]; exact harm.bankNamed
    · have hkept := (BanksKept.betweenFrames (arm s)).bankNamed
      rwa [harm.1, harm.2, ← h] at hkept
  rw [eq_of_unlessHeld hrun h]
  split
  next tag _ =>
    have hrecorded : ActiveKept s
        (if (testBank (shadowBank s)).isNone then Machine.setShadowBank (recordEmits (shadowBank s)) s else s) := by
      split
      exacts [.setShadowBank _ s, .rfl]
    unfold endValidate
    dsimp only
    revert hrecorded
    generalize (if (testBank (shadowBank s)).isNone then Machine.setShadowBank (recordEmits (shadowBank s)) s else s) = u
    intro hrecorded
    split
    · exact (hrecorded.trans (.of_notice (s := { u with shadow := .editable }) (raiseCompletion_step _ _ _))).bankNamed
    · exact hrecorded.bankNamed
  next =>
    split
    · exact (ActiveKept.endCommit _ s).bankNamed
    · exact harmed
  next =>
    split
    · exact ((ActiveKept.endCommit _ s).trans (.chooseCandidate _)).bankNamed
    · exact harmed
  next => rfl

theorem ActiveKept.execLoadComplete {read : BodyRead} {s t : State} (hrun : s.held = false)
    (h : execLoadComplete read s = .next t) : ActiveKept s t := by
  rw [eq_of_unlessHeld hrun h]
  split
  next tag slot _ =>
    have hread : ActiveKept s (withBodyRead slot read s) := by cases read <;> exact .rfl
    refine hread.trans ?_
    generalize withBodyRead slot read s = u
    dsimp only
    split
    next b _ =>
      have hloaded : ActiveKept u (Machine.setShadowBank b (endLoad slot u)) := .setShadowBank b (endLoad slot u)
      cases tag with
      | some tag => exact hloaded.trans (.of_notice (raiseCompletion_step _ _ _))
      | none => exact hloaded
    next =>
      cases tag with
      | some tag => exact .of_notice (s := setEntry slot _ (endLoad slot u)) (raiseCompletion_step _ _ _)
      | none => exact .chooseCandidate (setEntry slot _ (endLoad slot u))
  next => exact .rfl

theorem BanksKept.execSaveComplete {readsBack : Bool} {s t : State} (hrun : s.held = false)
    (h : execSaveComplete readsBack s = .next t) : BanksKept s t := by
  rw [eq_of_unlessHeld hrun h]
  split
  · cases readsBack
    exacts [⟨raiseCompletion_bankA _ _ _, raiseCompletion_bankB _ _ _⟩, ⟨raiseCompletion_bankA _ _ _, raiseCompletion_bankB _ _ _⟩]
  · exact ⟨rfl, rfl⟩

theorem BanksKept.execEraseComplete {readsErased : Bool} {s t : State} (hrun : s.held = false)
    (h : execEraseComplete readsErased s = .next t) : BanksKept s t := by
  rw [eq_of_unlessHeld hrun h]
  split
  · cases readsErased
    exacts [⟨raiseCompletion_bankA _ _ _, raiseCompletion_bankB _ _ _⟩, ⟨raiseCompletion_bankA _ _ _, raiseCompletion_bankB _ _ _⟩]
  · exact ⟨rfl, rfl⟩

theorem BanksKept.execDirectoryWriteComplete {readBack : DirReadBack} {s t : State} (hrun : s.held = false)
    (h : execDirectoryWriteComplete readBack s = .next t) : BanksKept s t := by
  rw [eq_of_unlessHeld hrun h]
  split
  · cases readBack
    exacts [⟨raiseCompletion_bankA _ _ _, raiseCompletion_bankB _ _ _⟩, ⟨raiseCompletion_bankA _ _ _, raiseCompletion_bankB _ _ _⟩]
  · exact ⟨rfl, rfl⟩

theorem ActiveKept.execCopyComplete {s t : State} (hrun : s.held = false) (h : execCopyComplete s = .next t) :
    ActiveKept s t := by
  rw [eq_of_unlessHeld hrun h]
  split
  · exact (ActiveKept.setShadowBank (activeBank s) s).trans (.of_notice
      (s := { Machine.setShadowBank (activeBank s) s with shadow := .editable }) (raiseCompletion_step _ _ _))
  · exact .rfl

theorem ActiveKept.execScanComplete {s t : State} (hrun : s.held = false) (h : execScanComplete s = .next t) :
    ActiveKept s t := by
  rw [eq_of_unlessHeld hrun h]
  split
  · split
    · exact .chooseCandidate (scanned s)
    · exact .of_notice (s := scanned s) (reportBoot_step _ _)
  · exact .rfl

theorem ActiveKept.offerRequest (f : ReverseFrame) (s : State) : ActiveKept s (offerRequest f s) := by
  unfold Machine.offerRequest; split <;> exact .rfl

theorem ActiveKept.offerReverse (f : ReverseFrame) (s : State) : ActiveKept s (offerReverse f s) := by
  unfold Machine.offerReverse; split <;> exact .rfl

theorem ActiveKept.execRequestFrame {s t : State} (hrun : s.held = false) (h : execRequestFrame s = .next t) :
    ActiveKept s t := by
  have haccepted : ActiveKept s (acceptReverse s) := .rfl
  rw [eq_of_unlessHeld hrun h]
  split
  next f _ =>
    dsimp only
    split <;> split
    · exact haccepted.trans ((ActiveKept.offerRequest _ _).trans (.offerReverse _ _))
    · exact haccepted.trans (.offerReverse _ _)
    · exact haccepted.trans (.offerRequest _ _)
    · exact haccepted
  next => exact .rfl

theorem ActiveKept.execEnumerateTaken {s t : State} (hrun : s.held = false) (h : execEnumerateTaken s = .next t) :
    ActiveKept s t := by
  rw [eq_of_unlessHeld hrun h]
  split
  next f rest _ _ =>
    have htaken (address : Fin 31) : ActiveKept s { s with requestQ := rest, address } := .rfl
    dsimp only
    split
    · split
      · exact (htaken s.address).trans (.offerAnswer _ _ _ _)
      · exact (htaken _).trans (.offerAnswer _ _ _ _)
    · exact (htaken s.address).trans (.offerAnswer _ _ _ _)
  next => exact .rfl

/-- R46, R48: a command out of hard reset, whatever it does. -/
theorem activeBank_kept_of_exec {c : Instr} {s t : State} (hrun : s.held = false) (h : exec c s = .next t) :
    bankNamed t s.active = activeBank s := by
  cases c with
  | hardReset cause =>
    cases h
    rw [if_neg (Bool.eq_false_iff.mp hrun)]
    split
    · exact (ActiveKept.endBankWork s).bankNamed
    · rfl
  | hardResetRelease pins =>
    simp only [exec, execHardResetRelease, hrun, Bool.false_and, Bool.false_eq_true, if_false] at h
    cases h
    rfl
  | intakeSampleFrame => exact (BanksKept.execIntakeSampleFrame hrun h).bankNamed
  | correctionDone => exact (BanksKept.execCorrectionDone hrun h).bankNamed
  | stalledOutputPlaced => exact (BanksKept.execStalledOutputPlaced hrun h).bankNamed
  | testComplete => exact ActiveKept.execTestComplete hrun h
  | loadComplete read => exact (ActiveKept.execLoadComplete hrun h).bankNamed
  | commitTimerExpiry =>
    rw [eq_of_unlessHeld hrun h]
    split
    · exact (ActiveKept.endCommit _ s).bankNamed
    · rfl
  | checkError port | malformed port =>
    rw [eq_of_unlessHeld hrun h]
    split
    · cases port <;> rfl
    · rfl
  | frameOpens port =>
    rw [eq_of_unlessHeld hrun h]
    split <;> cases port <;> rfl
  | dataByteAppended port =>
    rw [eq_of_unlessHeld hrun h]
    split
    · rfl
    · split <;> cases port <;> rfl
    · rfl
  | forwardFrameAccepted =>
    rw [eq_of_unlessHeld hrun h]
    split
    · unfold offerIngress
      split
      · rfl
      · exact (BanksKept.of_notice (s := { s with uRx := .idle, counters := _ }) (reportOverrun_step _)).bankNamed
    · rfl
  | intakePassingFrame =>
    rw [eq_of_unlessHeld hrun h]
    split
    next f rest _ _ => exact (BanksKept.passUnchanged (.response f) (removeIngressHead rest s)).bankNamed
    next f rest _ _ => exact (BanksKept.passUnchanged (.notice f) (removeIngressHead rest s)).bankNamed
    next => rfl
  | dFrameStart =>
    rw [eq_of_unlessHeld hrun h]
    unfold startForward startLocal
    split
    · split
      · split <;> rfl
      · split <;> rfl
      · rfl
    · rfl
  | dFrameSent =>
    rw [eq_of_unlessHeld hrun h]
    split
    next => rfl
    next f _ =>
      dsimp only
      split
      · split
        · exact (ActiveKept.endBankWork { s with dTx := { s.dTx with send := .ready, lane := .idle } }).bankNamed
        · rfl
      · rfl
  | enumerateFrame =>
    rw [eq_of_unlessHeld hrun h]
    unfold offerRequest offerReverse
    split
    · split <;> split <;> rfl
    · rfl
  | waitingFramePlaced =>
    rw [eq_of_unlessHeld hrun h]
    split
    · split <;> rfl
    · rfl
  | successorEnters | heldResponseEnters =>
    rw [eq_of_unlessHeld hrun h]
    split
    · split
      · split <;> rfl
      · rfl
    · rfl
  | badCode =>
    rw [eq_of_unlessHeld hrun h]
    split
    next f rest _ _ =>
      split
      · rfl
      · exact (ActiveKept.respond f (plainAnswer .badCode) { s with requestQ := rest }).bankNamed
    next => rfl
  | holdFrame | releaseFrame | holdTimerExpiry | refreshTimerExpiry | uFrameStart | uFrameSent =>
    rw [eq_of_unlessHeld hrun h]
    split <;> rfl
  | noticeFormed => rw [eq_of_unlessHeld hrun h]; exact (BanksKept.of_notice (offerNotice_step s)).bankNamed
  | writeGroup | writeMap | writeCurve | writePoints | clearShadow =>
    rw [eq_of_unlessHeld hrun h]
    exact (ActiveKept.takeRequest (fun _ u => .setShadowBank _ u) s).bankNamed
  | identify | readStatus | setLink | restart | releaseAddress | readTable | evaluate | copyActive | validate | storeDirectory
  | storeSave | storeLoad | storeErase | storeSetBoot | storeProtect =>
    rw [eq_of_unlessHeld hrun h]
    exact (ActiveKept.takeRequest (fun _ _ => .rfl) s).bankNamed
  | cancelCommit => rw [eq_of_unlessHeld hrun h]; exact (ActiveKept.takeRequest .runCancelCommit s).bankNamed
  | commit => rw [eq_of_unlessHeld hrun h]; exact (ActiveKept.takeRequest .runCommit s).bankNamed
  | readCounters => rw [eq_of_unlessHeld hrun h]; exact (ActiveKept.takeRequest .runReadCounters s).bankNamed
  | copyComplete => exact (ActiveKept.execCopyComplete hrun h).bankNamed
  | scanComplete => exact (ActiveKept.execScanComplete hrun h).bankNamed
  | requestFrame => exact (ActiveKept.execRequestFrame hrun h).bankNamed
  | enumerateTaken => exact (ActiveKept.execEnumerateTaken hrun h).bankNamed
  | saveComplete readsBack => exact (BanksKept.execSaveComplete hrun h).bankNamed
  | eraseComplete readsErased => exact (BanksKept.execEraseComplete hrun h).bankNamed
  | directoryWriteComplete readBack => exact (BanksKept.execDirectoryWriteComplete hrun h).bankNamed

/-- Settles O55: the invariant by `activeSound_invariant`, and the bank that is ACTIVE by the command; held in hard reset only
the pins change. -/
theorem activeBankIsValidAndNeverWritten : Obligations.ActiveBankIsValidAndNeverWritten := by
  refine ⟨fun _ _ => activeSound_invariant.step, fun c s t hrelease h => ?_⟩
  cases hrun : s.held with
  | false => exact activeBank_kept_of_exec hrun h
  | true =>
    obtain hreset | hreset := em (∃ cause, c = .hardReset cause)
    · obtain ⟨cause, rfl⟩ := hreset
      cases h
      rw [if_pos hrun]
      split <;> rfl
    · rw [exec_of_held hrun (fun cause hc => hreset ⟨cause, hc⟩) hrelease] at h
      cases h
      rfl

end Sys2Proof.Machine

/-! O54: the binding of the correction stage. -/

namespace Sys2Proof.Machine

theorem bindingSound_of_idle {s : State} (hfollows : StageFollowsIntake s) (hidle : s.stage = .idle) : BindingSound s :=
  ⟨hfollows, by simp [hidle], by simp [hidle]⟩

/-- What the binding of the correction stage reads. -/
def bindingPlaces (s : State) : Intake × Stage × BankName × Bank := (s.intake, s.stage, s.active, activeBank s)

theorem bindingSound_of_places {s t : State} (h : bindingPlaces t = bindingPlaces s) (hs : BindingSound s) : BindingSound t := by
  simp only [bindingPlaces, Prod.mk.injEq] at h
  obtain ⟨hintake, hstage, hactive, hbank⟩ := h
  simpa only [BindingSound, StageFollowsIntake, hintake, hstage, hactive, hbank] using hs

theorem NoticeStep.binding {s t : State} (h : NoticeStep s t) : bindingPlaces t = bindingPlaces s := by
  obtain ⟨n, q, rfl, -⟩ := h
  rfl

theorem ControlMove.intakeAndStage {s t : State} (h : ControlMove s t) : t.intake = s.intake ∧ t.stage = s.stage :=
  ControlBlind.move (P := fun u => u.intake = s.intake ∧ u.stage = s.stage)
    ⟨fun _ _ _ _ _ _ _ _ _ _ _ _ hs => hs, fun _ _ hs h => ⟨h.intake.trans hs.1, h.stage.trans hs.2⟩⟩ ⟨rfl, rfl⟩ h

/-- R26, R58, R60: a control move keeps the ACTIVE bank, or it is a swap and the stage holds no frame. -/
theorem bindingSound_control {s t : State} (hs : BindingSound s) (h : ControlMove s t) : BindingSound t := by
  obtain ⟨hintake, hstage⟩ := h.intakeAndStage
  have hempty (hidle : s.stage = .idle) : BindingSound t :=
    bindingSound_of_idle (by simpa only [StageFollowsIntake, hintake, hstage] using hs.1) (hstage.trans hidle)
  obtain ⟨hactive, hbank⟩ | hidle | hfree := h.active
  · exact bindingSound_of_places (by simp only [bindingPlaces, hintake, hstage, hactive, hbank]) hs
  · exact hempty hidle
  · exact hempty (stage_of_free hs.1 hfree)

theorem bindingSound_move {s t : State} (hs : BindingSound s) (h : Move s t) : BindingSound t := by
  have hkept (heq : bindingPlaces t = bindingPlaces s) : BindingSound t := bindingSound_of_places heq hs
  cases h with
  | restart => exact bindingSound_of_idle (stageFollows_of_idle nofun rfl) rfl
  | pass hfree =>
    have hidle := stage_of_free hs.1 hfree
    obtain ⟨h, -⟩ | ⟨h, -⟩ := passUnchanged_eq _ (removeIngressHead _ s) <;> rw [h]
    · exact bindingSound_of_idle (stageFollows_of_idle (by simp [hfree]) hidle) hidle
    · exact bindingSound_of_idle (stageFollows_of_idle nofun hidle) hidle
  | bind _ _ _ hprocess =>
    refine ⟨stageFollows_of_busy rfl nofun, ?_, nofun⟩
    rintro _ _ ⟨⟩
    exact ⟨rfl, hprocess⟩
  | place hwaiting =>
    have hidle : s.stage = .idle := by
      by_contra hbusy
      have hcorrecting := hs.1.mpr hbusy
      simp [hwaiting] at hcorrecting
    exact bindingSound_of_idle (stageFollows_of_idle nofun hidle) hidle
  | discard => exact bindingSound_of_idle (stageFollows_of_idle nofun rfl) rfl
  | deliver => exact bindingSound_of_idle (stageFollows_of_idle nofun rfl) rfl
  | stall out hbound =>
    refine ⟨stageFollows_of_busy (hs.1.mpr (by simp [hbound])) nofun, nofun, ?_⟩
    rintro _ _ ⟨⟩
    exact (hs.2.1 _ _ hbound).1
  | receive port => cases port <;> exact hkept rfl
  | startForward => refine hkept ?_; unfold Machine.startForward; split <;> rfl
  | startLocal => refine hkept ?_; unfold Machine.startLocal; split <;> rfl
  | answer response successor restart =>
    refine hkept ?_
    obtain ⟨_, _, _, h⟩ := offerAnswer_eq response successor restart s
    rw [h]
    rfl
  | form => exact hkept (offerNotice_step s).binding
  | raise tag what => exact hkept (raiseCompletion_step tag what s).binding
  | overrun => exact hkept (reportOverrun_step s).binding
  | sequence g => exact hkept (reportSequence_step g s).binding
  | control h => exact bindingSound_control hs h
  | _ => exact hkept rfl

theorem bindingSound_invariant : Invariant BindingSound where
  commands _ _ hs := hs
  pins _ _ hs := hs
  hardReset _ _ := bindingSound_of_idle (stageFollows_of_idle nofun rfl) rfl
  release _ _ _ := bindingSound_of_idle (stageFollows_of_idle nofun rfl) rfl
  move _ _ _ hs h := bindingSound_move hs h

/-- Settles O54: a swap finds the stage without a frame, and a control move that is no swap keeps the ACTIVE bank. -/
theorem stepKeepsTheBinding : Obligations.StepKeepsTheBinding := fun _ _ => bindingSound_invariant.step

end Sys2Proof.Machine

/-! O48: the choice of the candidate (R188). -/

namespace Sys2Proof.Machine

theorem candidateInfo_eq_some {store : StoreController} {tried : List (Fin 4)} {slot : Fin 4} {info : SlotInfo} :
    candidateInfo store tried slot = some info ↔ store.table[slot] = .valid info ∧ slot ∉ tried := by
  unfold candidateInfo
  by_cases htried : slot ∈ tried
  · simp [htried]
  · cases store.table[slot] <;> simp [htried]

theorem betterCandidate_eq_none {best : Option (Fin 4 × Word)} {slot : Fin 4} {info : Option SlotInfo} :
    betterCandidate best slot info = none ↔ best = none ∧ info = none := by
  cases best <;> cases info
  case some.some => simp only [betterCandidate]; split <;> simp
  all_goals simp [betterCandidate]

/-- A generation that a candidate, or the info of a slot, carries. -/
def Carries (best : Option (Fin 4 × Word)) (g : Word) : Prop := ∃ slot, best = some (slot, g)

theorem betterCandidate_eq_some {best : Option (Fin 4 × Word)} {slot b : Fin 4} {info : Option SlotInfo} {g : Word}
    (h : betterCandidate best slot info = some (b, g)) :
    (best = some (b, g) ∨ b = slot ∧ info.map (·.generation) = some g) ∧
      (∀ g', Carries best g' → g'.toNat ≤ g.toNat) ∧ ∀ i, info = some i → i.generation.toNat ≤ g.toNat := by
  obtain _ | ⟨b', g'⟩ := best <;> obtain _ | i := info
  · cases h
  · cases h
    exact ⟨.inr ⟨rfl, rfl⟩, by simp [Carries], by simp⟩
  · cases h
    exact ⟨.inl rfl, by simp [Carries], by simp⟩
  · simp only [betterCandidate] at h
    split at h <;> cases h
    · exact ⟨.inr ⟨rfl, rfl⟩, by simp only [Carries]; grind, by simp⟩
    · exact ⟨.inl rfl, by simp [Carries], by simp; omega⟩

/-- R188: over a list of slots the fold keeps the highest generation that it has met. -/
theorem foldl_betterCandidate (info : Fin 4 → Option SlotInfo) (slots : List (Fin 4)) (best : Option (Fin 4 × Word)) :
    let chosen := slots.foldl (fun best slot => betterCandidate best slot (info slot)) best
    (chosen = none → best = none ∧ ∀ slot ∈ slots, info slot = none) ∧
      ∀ b g, chosen = some (b, g) →
        (best = some (b, g) ∨ (info b).map (·.generation) = some g) ∧ (∀ g', Carries best g' → g'.toNat ≤ g.toNat) ∧
          ∀ slot ∈ slots, ∀ i, info slot = some i → i.generation.toNat ≤ g.toNat := by
  induction slots generalizing best with
  | nil =>
    refine ⟨fun h => ⟨h, nofun⟩, fun b g h => ⟨.inl h, ?_, nofun⟩⟩
    rintro g' ⟨slot, hslot⟩
    cases h.symm.trans hslot
    exact Nat.le_refl _
  | cons slot rest ih =>
    obtain ⟨hnone, hsome⟩ := ih (betterCandidate best slot (info slot))
    refine ⟨fun h => ?_, fun b g h => ?_⟩
    · obtain ⟨hfirst, hrest⟩ := hnone h
      obtain ⟨hbest, hinfo⟩ := betterCandidate_eq_none.mp hfirst
      exact ⟨hbest, List.forall_mem_cons.mpr ⟨hinfo, hrest⟩⟩
    · obtain ⟨hfrom, hmax, hrest⟩ := hsome b g h
      cases hfirst : betterCandidate best slot (info slot) with
      | none =>
        obtain ⟨rfl, hinfo⟩ := betterCandidate_eq_none.mp hfirst
        rw [hfirst] at hfrom
        exact ⟨.inr (hfrom.resolve_left nofun), by simp [Carries], by simpa [hinfo] using hrest⟩
      | some first =>
        obtain ⟨b', g'⟩ := first
        obtain ⟨hfrom', hmax', hinfo⟩ := betterCandidate_eq_some hfirst
        have hle : g'.toNat ≤ g.toNat := hmax g' ⟨b', hfirst⟩
        refine ⟨?_, fun h hh => (hmax' h hh).trans hle, List.forall_mem_cons.mpr ⟨fun i hi => (hinfo i hi).trans hle, hrest⟩⟩
        rw [hfirst] at hfrom
        obtain heq | hgen := hfrom
        · cases heq
          obtain hbest | ⟨rfl, hgen⟩ := hfrom'
          exacts [.inl hbest, .inr hgen]
        · exact .inr hgen

theorem newestCandidate_eq_none {store : StoreController} {tried : List (Fin 4)} (h : newestCandidate store tried = none)
    (slot : Fin 4) : candidateInfo store tried slot = none :=
  ((foldl_betterCandidate (candidateInfo store tried) (List.finRange 4) none).1 h).2 slot (List.mem_finRange slot)

theorem newestCandidate_eq_some {store : StoreController} {tried : List (Fin 4)} {b : Fin 4} {g : Word}
    (h : newestCandidate store tried = some (b, g)) : (∃ info, candidateInfo store tried b = some info ∧ info.generation = g) ∧
      ∀ slot i, candidateInfo store tried slot = some i → i.generation.toNat ≤ g.toNat := by
  obtain ⟨hfrom, -, hmax⟩ := (foldl_betterCandidate (candidateInfo store tried) (List.finRange 4) none).2 b g h
  exact ⟨Option.map_eq_some_iff.mp (hfrom.resolve_left nofun), fun slot => hmax slot (List.mem_finRange slot)⟩

/-- R188: a candidate is VALID and untried, with the generation of its entry. -/
theorem candidate_usable {store : StoreController} {tried : List (Fin 4)} {slot : Fin 4} {g : Word}
    (h : candidate store tried = some (slot, g)) : ∃ info, candidateInfo store tried slot = some info ∧ info.generation = g := by
  unfold candidate at h
  obtain hboot | ⟨-, hnewest⟩ := Option.or_eq_some_iff.mp h
  · unfold bootSlotCandidate at hboot
    split at hboot
    · cases hboot
    · obtain ⟨info, hinfo, heq⟩ := Option.map_eq_some_iff.mp hboot
      cases heq
      exact ⟨info, hinfo, rfl⟩
  · split at hnewest
    · exact (newestCandidate_eq_some hnewest).1
    · cases hnewest

/-- R172: two slots with the info of a generation are one slot. -/
theorem candidateInfo_unique {store : StoreController} {tried : List (Fin 4)} {i j : Fin 4} {a b : SlotInfo}
    (hdistinct : GenerationsDistinct (fun i => store.table[i])) (ha : candidateInfo store tried i = some a)
    (hb : candidateInfo store tried j = some b) (hgen : a.generation = b.generation) : i = j := by
  obtain ⟨hi, -⟩ := candidateInfo_eq_some.mp ha
  obtain ⟨hj, -⟩ := candidateInfo_eq_some.mp hb
  by_contra hne
  exact hdistinct i j hne (by simp [hi, generationOf]) (by simp [hi, hj, generationOf, hgen])

/-- Settles O48: the boot slot is asked first, and the fold over the slots finds the highest generation. -/
theorem candidateIsChosenInOrder : Obligations.CandidateIsChosenInOrder := by
  intro store tried hdistinct
  simp only [← candidateInfo_eq_some]
  refine ⟨fun slot info hboot husable => by simp [candidate, bootSlotCandidate, hboot, husable], fun hunusable => ?_⟩
  have hfallback : candidate store tried = if store.view.setting.fallback then newestCandidate store tried else none := by
    have hnone : bootSlotCandidate store tried = none := by
      unfold bootSlotCandidate
      split
      · rfl
      · exact Option.map_eq_none_iff.mpr (Option.eq_none_iff_forall_ne_some.mpr fun info => hunusable _ info ‹_›)
    simp [candidate, hnone]
  refine ⟨fun hoff => by simp [hfallback, hoff], fun hon => ?_⟩
  rw [hfallback, if_pos hon]
  refine ⟨fun slot info husable hhighest => ?_, fun hnone => ?_⟩
  · cases hnewest : newestCandidate store tried with
    | none => exact absurd (newestCandidate_eq_none hnewest slot) (by simp [husable])
    | some best =>
      obtain ⟨b, g⟩ := best
      obtain ⟨⟨other, hother, rfl⟩, hmax⟩ := newestCandidate_eq_some hnewest
      have hgen : other.generation = info.generation :=
        BitVec.eq_of_toNat_eq (Nat.le_antisymm (hhighest b other hother) (hmax slot info husable))
      rw [hgen, candidateInfo_unique hdistinct hother husable hgen]
  · cases hnewest : newestCandidate store tried with
    | none => rfl
    | some best => exact absurd (newestCandidate_eq_some hnewest).1.choose_spec.1 (hnone _ _)

end Sys2Proof.Machine

/-! O57: shadow, commit record, store operation and boot record. -/

namespace Sys2Proof.Machine

/-- What the soundness of the control reads. -/
def controlParts (s : State) : Bool × Mode × Option BootRecord × Stage × Shadow × Option CommitRecord × Option StoreOp :=
  (s.held, s.mode, s.boot, s.stage, s.shadow, s.commit, s.store.op)

theorem controlSound_of_parts {s t : State} (h : controlParts t = controlParts s) (hs : ControlSound s) : ControlSound t := by
  simp only [controlParts, Prod.mk.injEq] at h
  obtain ⟨hheld, hmode, hboot, hstage, hshadow, hcommit, hop⟩ := h
  simpa only [ControlSound, CommitSound, LoadSound, BootSound, PhaseSound, hheld, hmode, hboot, hstage, hshadow, hcommit, hop]
    using hs

theorem NoticeStep.parts {s t : State} (h : NoticeStep s t) : controlParts t = controlParts s := by
  obtain ⟨n, q, rfl, -⟩ := h
  rfl

theorem controlSound_of_notice {s t : State} (hs : ControlSound s) (h : NoticeStep s t) : ControlSound t :=
  controlSound_of_parts h.parts hs

@[simp] theorem inCommit_editable : Shadow.inCommit .editable = false := rfl
@[simp] theorem inCommit_copying (tag : Byte) : (Shadow.copying tag).inCommit = false := rfl
@[simp] theorem inCommit_loading : Shadow.inCommit .loading = false := rfl
@[simp] theorem inCommit_validate (tag : Option Byte) : (Shadow.validating .validate tag).inCommit = false := rfl
@[simp] theorem inCommit_commit (tag : Option Byte) : (Shadow.validating .commit tag).inCommit = true := rfl
@[simp] theorem inCommit_boot (tag : Option Byte) : (Shadow.validating .boot tag).inCommit = true := rfl
@[simp] theorem inCommit_armed : Shadow.inCommit .armed = true := rfl

/-! ### The two modes of the part -/

/-- R184: RUNNING, every piece of work is one that a request has started. -/
structure RunningSound (s : State) : Prop where
  mode : s.mode = .running
  boot : s.boot = none
  commit : s.commit.isSome = s.shadow.inCommit
  record : ∀ r, s.commit = some r →
    r.origin = .request ∧ r.tag.isSome = true ∧ (r.timer = true → s.shadow = .armed ∧ r.timeout ≠ 0)
  load : s.shadow = .loading ↔ s.store.op.any StoreOp.isLoad = true
  noBootLoad : ∀ slot, s.store.op ≠ some (.load none slot)
  noBootTest : ∀ tag, s.shadow ≠ .validating .boot tag

/-- R187: BOOTING, the work is that of the phase. -/
structure BootingSound (r : BootRecord) (s : State) : Prop where
  mode : s.mode = .booting
  boot : s.boot = some r
  stage : s.stage = .idle
  tried : r.tried.Nodup
  phase : PhaseSound r s

theorem RunningSound.controlSound {s : State} (h : RunningSound s) : ControlSound s := by
  refine ⟨⟨h.commit, fun r hr => ?_⟩, h.load, fun _ => ?_⟩
  · obtain ⟨horigin, htag, htimer⟩ := h.record r hr
    exact ⟨by simp [horigin, htag], htimer⟩
  · rw [h.boot]
    exact ⟨h.mode, h.noBootLoad, h.noBootTest, fun r hr => (h.record r hr).1⟩

theorem ControlSound.cases {s : State} (hs : ControlSound s) (hrun : s.held = false) :
    RunningSound s ∨ (∃ r, BootingSound r s) ∧ (s.commit.isSome = s.shadow.inCommit) ∧ LoadSound s := by
  obtain ⟨⟨hcommit, hrecord⟩, hload, hboot⟩ := hs
  have hphase := hboot hrun
  split at hphase
  next r hr =>
    obtain ⟨hmode, hstage, htried, hphase⟩ := hphase
    exact .inr ⟨⟨r, ⟨hmode, hr, hstage, htried, hphase⟩⟩, hcommit, hload⟩
  next hnone =>
    obtain ⟨hmode, hnoLoad, hnoTest, horigin⟩ := hphase
    refine .inl ⟨hmode, hnone, hcommit, fun r hr => ?_, hload, hnoLoad, hnoTest⟩
    obtain ⟨htag, htimer⟩ := hrecord r hr
    have hrequest := horigin r hr
    exact ⟨hrequest, by simpa [hrequest] using htag, htimer⟩

/-- The boot has the shadow and the store in its own work. -/
theorem BootingSound.cases {r : BootRecord} {s : State} (h : BootingSound r s) :
    (r.phase = .scan ∧ s.store.op = some .scan ∧ s.shadow = .editable ∧ r.candidate = none ∧ r.tried = []) ∨
      (r.phase = .load ∧ s.shadow = .loading ∧ ∃ slot, s.store.op = some (.load none slot) ∧ r.candidate.isSome = true) ∨
      (r.phase = .test ∧ r.candidate.isSome = true ∧ s.store.op = none ∧ s.shadow = .validating .boot none ∧
        s.commit = some { origin := .boot, tag := none, mode := .now, timeout := 0, timer := false }) := by
  have hphase := h.phase
  unfold PhaseSound at hphase
  split at hphase
  next heq => exact .inl ⟨heq, hphase⟩
  next heq =>
    obtain ⟨hshadow, slot, generation, hcandidate, -, hop⟩ := hphase
    exact .inr (.inl ⟨heq, hshadow, slot, hop, by simp [hcandidate]⟩)
  next heq => exact .inr (.inr ⟨heq, hphase⟩)

theorem ControlSound.running {s : State} (hs : ControlSound s) (hrun : s.held = false) (hmode : s.mode = .running) :
    RunningSound s := by
  obtain h | ⟨⟨r, h⟩, -⟩ := hs.cases hrun
  · exact h
  · exact absurd (hmode.symm.trans h.mode) nofun

/-- A shadow in work that no boot does shows that the part is RUNNING. -/
theorem ControlSound.running_of_shadow {s : State} (hs : ControlSound s) (hrun : s.held = false) (heditable : s.shadow ≠ .editable)
    (hloading : s.shadow ≠ .loading) (htest : ∀ tag, s.shadow ≠ .validating .boot tag) : RunningSound s := by
  obtain h | ⟨⟨r, h⟩, -⟩ := hs.cases hrun
  · exact h
  · obtain ⟨-, -, hshadow, -⟩ | ⟨-, hshadow, -⟩ | ⟨-, -, -, hshadow, -⟩ := h.cases
    exacts [absurd hshadow heditable, absurd hshadow hloading, absurd hshadow (htest none)]

/-- A store operation that no boot starts shows that the part is RUNNING. -/
theorem ControlSound.running_of_op {s : State} {op : StoreOp} (hs : ControlSound s) (hrun : s.held = false)
    (hop : s.store.op = some op) (hscan : op ≠ .scan) (hload : ∀ slot, op ≠ .load none slot) : RunningSound s := by
  obtain h | ⟨⟨r, h⟩, -⟩ := hs.cases hrun
  · exact h
  · obtain ⟨-, hop', -⟩ | ⟨-, -, slot, hop', -⟩ | ⟨-, -, hop', -⟩ := h.cases <;> rw [hop] at hop' <;> cases hop'
    exacts [absurd rfl hscan, absurd rfl (hload slot)]

/-! ### The choice of a candidate -/

theorem RunningSound.of_parts {s t : State} (h : controlParts t = controlParts s) (hs : RunningSound s) : RunningSound t := by
  simp only [controlParts, Prod.mk.injEq] at h
  obtain ⟨-, hmode, hboot, -, hshadow, hcommit, hop⟩ := h
  exact ⟨hmode.trans hs.mode, hboot.trans hs.boot, by rw [hcommit, hshadow]; exact hs.commit,
    by rw [hcommit, hshadow]; exact hs.record, by rw [hshadow, hop]; exact hs.load, by rw [hop]; exact hs.noBootLoad,
    by rw [hshadow]; exact hs.noBootTest⟩

/-- RUNNING with an EDITABLE shadow and no commit. -/
theorem runningSound_of_editable {s : State} (hmode : s.mode = .running) (hboot : s.boot = none) (hshadow : s.shadow = .editable)
    (hcommit : s.commit = none) (hop : s.store.op.any StoreOp.isLoad = false) : RunningSound s := by
  refine ⟨hmode, hboot, by rw [hcommit, hshadow]; rfl, by simp [hcommit], by simp [hshadow, hop], ?_, by simp [hshadow]⟩
  intro slot h
  simp [h, StoreOp.isLoad] at hop

theorem controlSound_endBootEmpty {s : State} (hcommit : s.commit = none) (hop : s.store.op = none) :
    ControlSound (endBootEmpty s) := by
  refine controlSound_of_notice (RunningSound.controlSound ?_) (reportBoot_step _ _)
  exact runningSound_of_editable rfl rfl rfl (by simpa using hcommit) (by simp [hop])

/-- R188: a boot between two attempts makes its next choice. -/
theorem controlSound_chooseCandidate {r : BootRecord} {s : State} (hmode : s.mode = .booting) (hboot : s.boot = some r)
    (hstage : s.stage = .idle) (htried : r.tried.Nodup) (hcommit : s.commit = none) (hop : s.store.op = none) :
    ControlSound (chooseCandidate s) := by
  cases hcandidate : candidate s.store r.tried with
  | none => rw [chooseCandidate_of_none hboot hcandidate]; exact controlSound_endBootEmpty hcommit hop
  | some best =>
    obtain ⟨slot, generation⟩ := best
    obtain ⟨info, hinfo, -⟩ := candidate_usable hcandidate
    have huntried : slot ∉ r.tried := (candidateInfo_eq_some.mp hinfo).2
    rw [chooseCandidate_of_some hboot hcandidate]
    refine ⟨⟨congrArg Option.isSome hcommit, fun r hr => absurd (hcommit.symm.trans hr) nofun⟩, ⟨fun _ => rfl, fun _ => rfl⟩, fun _ => ?_⟩
    refine ⟨hmode, hstage, ?_, rfl, slot, generation, rfl, by simp, rfl⟩
    exact List.nodup_append.mpr ⟨htried, List.nodup_singleton slot, by
      rintro a ha b hb rfl
      exact huntried (List.mem_singleton.mp hb ▸ ha)⟩

/-! ### The swap -/

theorem RunningSound.swap {s : State} (h : RunningSound s) (hshadow : s.shadow ≠ .loading) : ControlSound (swap s) := by
  have hswapped : RunningSound (afterSwap s) :=
    runningSound_of_editable h.mode h.boot rfl rfl (Bool.eq_false_iff.mpr fun hload => hshadow (h.load.mpr hload))
  rw [swap_eq_afterSwap]
  split
  · exact controlSound_of_notice hswapped.controlSound (raiseCompletion_step _ _ _)
  next hcommit => exact absurd (h.record _ hcommit).1 nofun
  · exact hswapped.controlSound

theorem controlSound_endBootLoaded {s : State} (hshadow : s.shadow = .editable) (hcommit : s.commit = none)
    (hop : s.store.op = none) : ControlSound (endBootLoaded s) :=
  controlSound_of_notice (runningSound_of_editable (s := { s with mode := .running, boot := none }) rfl rfl hshadow hcommit
    (by simp [hop])).controlSound (endBootLoaded_step s)

/-! ### The moves -/

theorem setShadowBank_parts (b : Bank) (s : State) : controlParts (setShadowBank b s) = controlParts s := by
  obtain ⟨_, _, h⟩ := setShadowBank_eq b s
  rw [h]
  rfl

/-- The store starts or ends a work that is no load, RUNNING. -/
theorem RunningSound.withOp {s : State} (h : RunningSound s) {store : StoreController} (nv : NvStore)
    (hbefore : s.store.op.any StoreOp.isLoad = false) (hafter : store.op.any StoreOp.isLoad = false) :
    RunningSound { s with store := store, nv := nv } := by
  refine ⟨h.mode, h.boot, h.commit, h.record, ?_, ?_, h.noBootTest⟩
  · exact h.load.trans (by simp [hbefore, hafter])
  · rintro slot heq
    simp only at heq
    simp [heq, StoreOp.isLoad] at hafter

/-- The shadow changes between two states that are neither LOADING nor those of a commit. -/
theorem RunningSound.withShadow {s : State} (h : RunningSound s) {shadow : Shadow} (hbefore : s.shadow.inCommit = false)
    (hbefore' : s.shadow ≠ .loading) (hafter : shadow.inCommit = false) (hafter' : shadow ≠ .loading) :
    RunningSound { s with shadow := shadow } := by
  have hcommit : s.commit = none := by simpa [hbefore] using h.commit
  refine ⟨h.mode, h.boot, h.commit.trans (hbefore.trans hafter.symm), by simp [hcommit], ?_, h.noBootLoad, ?_⟩
  · have hload := h.load
    simp only [hbefore', hafter', false_iff] at hload ⊢
    exact hload
  · rintro tag heq
    simp only at heq
    simp [heq] at hafter

theorem RunningSound.editable {s : State} (h : RunningSound s) (hshadow : s.shadow ≠ .loading) :
    RunningSound { s with shadow := .editable, commit := none } :=
  runningSound_of_editable h.mode h.boot rfl rfl (Bool.eq_false_iff.mpr fun hload => hshadow (h.load.mpr hload))

/-- R58, R190: an armed shadow has the commit that its test was for. -/
theorem RunningSound.arm {s : State} {tag : Option Byte} (h : RunningSound s) (hshadow : s.shadow = .validating .commit tag) :
    RunningSound (arm s) := by
  refine .of_parts (s := { s with
      shadow := .armed, commit := s.commit.map fun r => { r with timer := decide (r.timeout ≠ 0) } }) ?_ ?_
  · simp [controlParts, Machine.arm]
  · refine ⟨h.mode, h.boot, ?_, ?_, ?_, h.noBootLoad, nofun⟩
    · simpa [hshadow] using h.commit
    · rintro r hr
      obtain ⟨r', hr', rfl⟩ := Option.map_eq_some_iff.mp hr
      obtain ⟨horigin, htag, -⟩ := h.record r' hr'
      exact ⟨horigin, htag, fun htimer => ⟨rfl, of_decide_eq_true htimer⟩⟩
    · simpa [hshadow] using h.load

theorem controlSound_setShadowBank (b : Bank) {s : State} (hs : ControlSound s) : ControlSound (setShadowBank b s) :=
  controlSound_of_parts (setShadowBank_parts b s) hs

/-- A commit record is there in a commit alone. -/
theorem commit_none_of_shadow {s : State} (h : s.commit.isSome = s.shadow.inCommit) (hshadow : s.shadow.inCommit = false) :
    s.commit = none := by
  simpa [hshadow] using h

/-- The phase of a boot that tests: the shadow is that of its commit. -/
theorem ControlSound.booting_of_test {s : State} {tag : Option Byte} (hs : ControlSound s) (hrun : s.held = false)
    (htest : s.shadow = .validating .boot tag) : ∃ r, BootingSound r s ∧ s.store.op = none ∧
      s.commit = some { origin := .boot, tag := none, mode := .now, timeout := 0, timer := false } := by
  obtain h | ⟨⟨r, h⟩, -⟩ := hs.cases hrun
  · exact absurd htest (h.noBootTest tag)
  · obtain ⟨-, -, hshadow, -⟩ | ⟨-, hshadow, -⟩ | ⟨-, -, hop, -, hcommit⟩ := h.cases
    · simp [htest] at hshadow
    · simp [htest] at hshadow
    · exact ⟨r, h, hop, hcommit⟩

/-- The phase of a boot that loads: no commit is there. -/
theorem ControlSound.booting_of_load {s : State} {slot : Fin 4} (hs : ControlSound s) (hrun : s.held = false)
    (hload : s.store.op = some (.load none slot)) : ∃ r, BootingSound r s ∧ r.candidate.isSome = true ∧ s.commit = none := by
  obtain h | ⟨⟨r, h⟩, hcommit, -⟩ := hs.cases hrun
  · exact absurd hload (h.noBootLoad slot)
  · obtain ⟨-, hop, -⟩ | ⟨-, hshadow, -, -, hcandidate⟩ | ⟨-, -, hop, -⟩ := h.cases
    · simp [hload] at hop
    · exact ⟨r, h, hcandidate, commit_none_of_shadow hcommit (by simp [hshadow])⟩
    · simp [hload] at hop

/-- A load that a request has started: RUNNING, no commit. -/
theorem ControlSound.running_of_load {s : State} {tag : Byte} {slot : Fin 4} (hs : ControlSound s) (hrun : s.held = false)
    (hload : s.store.op = some (.load (some tag) slot)) : RunningSound s ∧ s.commit = none := by
  have hr := hs.running_of_op hrun hload nofun (by simp)
  exact ⟨hr, commit_none_of_shadow hr.commit (by simp [hr.load.mpr (by simp [hload, StoreOp.isLoad])])⟩

theorem controlSound_endOp {s : State} {op : StoreOp} (hrun : s.held = false) (hs : ControlSound s) (hop : s.store.op = some op)
    (hscan : op ≠ .scan) (hload : op.isLoad = false) {store : StoreController} (nv : NvStore) (hnone : store.op = none) :
    ControlSound { s with store := store, nv := nv } := by
  have hr := hs.running_of_op hrun hop hscan (by rintro slot rfl; cases hload)
  exact (hr.withOp nv (by simp [hop, hload]) (by simp [hnone])).controlSound

theorem controlSound_startOp {s : State} (hrun : s.held = false) (hs : ControlSound s) (hmode : s.mode = .running)
    (hop : s.store.op = none) {store : StoreController} (nv : NvStore) (hload : store.op.any StoreOp.isLoad = false) :
    ControlSound { s with store := store, nv := nv } :=
  ((hs.running hrun hmode).withOp nv (by simp [hop]) hload).controlSound

theorem controlSound_armNow {s : State} {purpose : Purpose} {tag : Option Byte} (hrun : s.held = false) (hs : ControlSound s)
    (hvalidating : s.shadow = .validating purpose tag) (hpurpose : purpose ≠ .validate) : ControlSound (swap (arm s)) := by
  cases purpose with
  | validate => exact absurd rfl hpurpose
  | commit =>
    exact ((hs.running_of_shadow hrun (by simp [hvalidating]) (by simp [hvalidating])
      (by simp [hvalidating])).arm hvalidating).swap nofun
  | boot =>
    obtain ⟨r, -, hop, hcommit⟩ := hs.booting_of_test hrun hvalidating
    have harmed : (arm s).commit = some { origin := .boot, tag := none, mode := .now, timeout := 0, timer := decide ((0 : Half) ≠ 0) } := by
      simp [arm, hcommit]
    rw [swap_eq_afterSwap, harmed]
    exact controlSound_endBootLoaded rfl rfl (by simpa [arm, afterSwap] using hop)

theorem controlSound_control {s t : State} (hrun : s.held = false) (hs : ControlSound s) (h : ControlMove s t) :
    ControlSound t := by
  cases h with
  | write => exact controlSound_setShadowBank _ hs
  | record => exact controlSound_setShadowBank _ hs
  | bodyRead => exact controlSound_of_parts rfl hs
  | copy tag heditable hmode =>
    exact ((hs.running hrun hmode).withShadow (shadow := .copying tag) (by simp [heditable]) (by simp [heditable]) rfl nofun).controlSound
  | validate tag heditable hmode =>
    exact ((hs.running hrun hmode).withShadow (shadow := .validating .validate (some tag)) (by simp [heditable]) (by simp [heditable])
      rfl nofun).controlSound
  | commit tag mode timeout heditable hmode =>
    have hr := hs.running hrun hmode
    refine RunningSound.controlSound ⟨hr.mode, hr.boot, rfl, ?_, ?_, hr.noBootLoad, nofun⟩
    · rintro r ⟨⟩
      exact ⟨rfl, rfl, nofun⟩
    · simpa [heditable] using hr.load
  | copied hcopying =>
    have hr := hs.running_of_shadow hrun (by simp [hcopying]) (by simp [hcopying]) (by simp [hcopying])
    obtain ⟨_, _, h⟩ := setShadowBank_eq (activeBank s) s
    rw [h]
    exact controlSound_of_parts rfl
      (hr.withShadow (shadow := .editable) (by simp [hcopying]) (by simp [hcopying]) rfl nofun).controlSound
  | validated hvalidating =>
    have hr := hs.running_of_shadow hrun (by simp [hvalidating]) (by simp [hvalidating]) (by simp [hvalidating])
    exact (hr.withShadow (shadow := .editable) (by simp [hvalidating]) (by simp [hvalidating]) rfl nofun).controlSound
  | endCommit hcommit =>
    have hr : RunningSound s := hs.running_of_shadow hrun (by grind) (by grind) (by grind)
    exact (hr.editable (by grind)).controlSound
  | @arm purpose tag hvalidating hpurpose _ hlater =>
    cases purpose with
    | validate => exact absurd rfl hpurpose
    | commit =>
      exact ((hs.running_of_shadow hrun (by simp [hvalidating]) (by simp [hvalidating])
        (by simp [hvalidating])).arm hvalidating).controlSound
    | boot =>
      obtain ⟨r, h, -, hcommit⟩ := hs.booting_of_test hrun hvalidating
      obtain hbusy | hnotNow := hlater
      exacts [absurd h.stage hbusy, absurd rfl (hnotNow _ hcommit)]
  | armNow hvalidating hpurpose => exact controlSound_armNow hrun hs hvalidating hpurpose
  | swap harmed =>
    exact (hs.running_of_shadow hrun (by simp [harmed]) (by simp [harmed]) (by simp [harmed])).swap (by simp [harmed])
  | bootTestFailed fault hvalidating =>
    obtain ⟨r, h, hop, hcommit⟩ := hs.booting_of_test hrun hvalidating
    have hended : endCommit (.commitInvalid fault) s = { s with shadow := .editable, commit := none } := by
      simp [endCommit, hcommit]
    rw [hended]
    exact controlSound_chooseCandidate h.mode h.boot h.stage h.tried rfl hop
  | save f hop hmode => exact controlSound_startOp hrun hs hmode hop _ rfl
  | erase f hop hmode => exact controlSound_startOp hrun hs hmode hop _ rfl
  | dirWrite f d hop hmode => exact controlSound_startOp hrun hs hmode hop s.nv rfl
  | load tag slot hop hmode heditable =>
    have hr := hs.running hrun hmode
    refine RunningSound.controlSound ⟨hr.mode, hr.boot, ?_, ?_, ⟨fun _ => rfl, fun _ => rfl⟩, nofun, nofun⟩
    · simpa [heditable] using hr.commit
    · have hcommit := commit_none_of_shadow hr.commit (by simp [heditable])
      exact fun r hr => absurd (hcommit.symm.trans hr) nofun
  | saved crc body hop => exact controlSound_endOp hrun hs hop nofun rfl _ rfl
  | saveFailed body hop => exact controlSound_endOp hrun hs hop nofun rfl _ rfl
  | erased hop => exact controlSound_endOp hrun hs hop nofun rfl _ rfl
  | eraseFailed body hop => exact controlSound_endOp hrun hs hop nofun rfl _ rfl
  | dirWritten copy view hop => exact controlSound_endOp hrun hs hop nofun rfl _ rfl
  | loaded hop =>
    obtain ⟨hr, hcommit⟩ := hs.running_of_load hrun hop
    exact controlSound_setShadowBank _ (runningSound_of_editable (s := endLoad _ s) hr.mode hr.boot rfl hcommit rfl).controlSound
  | loadFailed hop =>
    obtain ⟨hr, hcommit⟩ := hs.running_of_load hrun hop
    exact (runningSound_of_editable (s := setEntry _ _ (endLoad _ s)) hr.mode hr.boot rfl hcommit rfl).controlSound
  | @bootLoaded slot b hop =>
    obtain ⟨r, h, hcandidate, hcommit⟩ := hs.booting_of_load hrun hop
    obtain ⟨_, _, heq⟩ := setShadowBank_eq b (endLoad slot s)
    rw [heq]
    refine ⟨⟨rfl, ?_⟩, ⟨nofun, nofun⟩, fun _ => ?_⟩
    · rintro _ ⟨⟩
      exact ⟨rfl, nofun⟩
    · simp only [startBootTest, endLoad, h.boot, Option.map_some]
      exact ⟨h.mode, h.stage, h.tried, hcandidate, rfl, rfl, rfl⟩
  | bootLoadFailed hop =>
    obtain ⟨r, h, -, hcommit⟩ := hs.booting_of_load hrun hop
    exact controlSound_chooseCandidate h.mode h.boot h.stage h.tried hcommit rfl
  | bootScanned hop hboot =>
    obtain h | ⟨⟨r, h⟩, hcommit, -⟩ := hs.cases hrun
    · simp [h.boot] at hboot
    · obtain ⟨-, -, hshadow, -⟩ | ⟨-, -, slot, hop', -⟩ | ⟨-, -, hop', -⟩ := h.cases
      · exact controlSound_chooseCandidate h.mode h.boot h.stage h.tried
          (commit_none_of_shadow hcommit (by simp [hshadow])) rfl
      · simp [hop] at hop'
      · simp [hop] at hop'
  | keptScanned hop hboot =>
    obtain h | ⟨⟨r, h⟩, -⟩ := hs.cases hrun
    · exact controlSound_of_notice (h.withOp (store := (scanned s).store) s.nv (by simp [hop, StoreOp.isLoad]) rfl).controlSound
        (reportBoot_step .kept (scanned s))
    · exact absurd (h.boot.symm.trans hboot) nofun

/-! ### The outer moves -/

/-- The correction stage while the part boots: it stays IDLE. -/
theorem Move.stage_of_boot {s t : State} (h : Move s t) (hmode : s.mode = .booting) (hidle : s.stage = .idle) : t.stage = .idle := by
  cases h with
  | bind _ _ hrunning => exact absurd (hmode.symm.trans hrunning) nofun
  | stall _ hbound => exact absurd (hidle.symm.trans hbound) nofun
  | control h => exact h.intakeAndStage.2.trans hidle
  | restart => rfl
  | discard => rfl
  | deliver => rfl
  | receive port => cases port <;> exact hidle
  | pass => obtain ⟨h, -⟩ | ⟨h, -⟩ := passUnchanged_eq _ (removeIngressHead _ s) <;> rw [h] <;> exact hidle
  | startForward => unfold Machine.startForward; split <;> exact hidle
  | startLocal => unfold Machine.startLocal; split <;> exact hidle
  | answer response successor restart => obtain ⟨_, _, _, h⟩ := offerAnswer_eq response successor restart s; rw [h]; exact hidle
  | form => exact (offerNotice_step s).stage.trans hidle
  | raise tag what => exact (raiseCompletion_step tag what s).stage.trans hidle
  | overrun => exact (reportOverrun_step s).stage.trans hidle
  | sequence g => exact (reportSequence_step g s).stage.trans hidle
  | _ => exact hidle

theorem controlSound_beginRestart (form : RestartForm) (s : State) : ControlSound (beginRestart form s) := by
  refine ⟨⟨rfl, nofun⟩, ⟨nofun, nofun⟩, fun _ => ?_⟩
  cases form with
  | keep => exact ⟨rfl, nofun, nofun, nofun⟩
  | reload => exact ⟨rfl, rfl, List.nodup_nil, rfl, rfl, rfl, rfl⟩

theorem controlSound_move {s t : State} (hrun : s.held = false) (hs : ControlSound s) (h : Move s t) : ControlSound t := by
  have hplaces := h.control_cases
  obtain hplaces | ⟨form, u, -, rfl⟩ | hcontrol := hplaces
  · simp only [controlPlaces, Prod.mk.injEq] at hplaces
    obtain ⟨hheld, hmode, hboot, -, -, -, hshadow, hcommit, hstore, -⟩ := hplaces
    obtain hr | ⟨⟨r, hr⟩, -⟩ := hs.cases hrun
    · refine RunningSound.controlSound ⟨hmode.trans hr.mode, hboot.trans hr.boot, by rw [hcommit, hshadow]; exact hr.commit,
        by rw [hcommit, hshadow]; exact hr.record, by rw [hshadow, hstore]; exact hr.load, by rw [hstore]; exact hr.noBootLoad,
        by rw [hshadow]; exact hr.noBootTest⟩
    · have hstage := (h.stage_of_boot hr.mode hr.stage).trans hr.stage.symm
      exact controlSound_of_parts (by simp only [controlParts, hheld, hmode, hboot, hstage, hshadow, hcommit, hstore]) hs
  · exact controlSound_beginRestart form u
  · exact controlSound_control hrun hs hcontrol

theorem controlSound_invariant : Invariant ControlSound where
  commands _ _ hs := hs
  pins _ _ hs := hs
  hardReset _ _ := ⟨⟨rfl, nofun⟩, ⟨nofun, nofun⟩, nofun⟩
  release _ _ _ := ⟨⟨rfl, nofun⟩, ⟨nofun, nofun⟩, fun _ => ⟨rfl, rfl, List.nodup_nil, rfl, rfl, rfl, rfl⟩⟩
  move _ _ := controlSound_move

/-- Settles O57: the work of the control goes together in every move. -/
theorem stepKeepsControlStatesTogether : Obligations.StepKeepsControlStatesTogether := fun _ _ => controlSound_invariant.step

end Sys2Proof.Machine

/-! O60: the generations, and the slot of a save or an erase. -/

namespace Sys2Proof.Machine

/-- What the soundness of the store reads. -/
def storeParts (s : State) : Bool × StoreController × (Fin 4 → Header) := (s.held, s.store, fun i => (s.nv.slots[i]).header)

theorem storeSound_of_parts {s t : State} (h : storeParts t = storeParts s) (hs : StoreSound s) : StoreSound t := by
  simp only [storeParts, Prod.mk.injEq] at h
  obtain ⟨hheld, hstore, hheaders⟩ := h
  have hheader (i : Fin 4) : (t.nv.slots[i]).header = (s.nv.slots[i]).header := congrFun hheaders i
  simpa only [StoreSound, opSound, TableShowsStore, hheld, hstore, hheader] using hs

theorem storeSound_of_places (s t : State) (h : controlPlaces t = controlPlaces s) (hs : StoreSound s) : StoreSound t := by
  simp only [controlPlaces, Prod.mk.injEq] at h
  obtain ⟨hheld, -, -, -, -, -, -, -, hstore, hnv⟩ := h
  exact storeSound_of_parts (by simp only [storeParts, hheld, hstore, hnv]) hs

theorem storeSound_of_notice {s t : State} (hs : StoreSound s) (h : NoticeStep s t) : StoreSound t :=
  storeSound_of_places _ _ h.control hs

/-! ### Distinct generations (R172) -/

/-- No generation is new, each at its own slot. -/
theorem generationsDistinct_of_kept {f g : Fin 4 → SlotEntry} (hf : GenerationsDistinct f)
    (h : ∀ i, generationOf (g i) = generationOf (f i) ∨ generationOf (g i) = none) : GenerationsDistinct g := by
  intro i j hne hsome heq
  have hi := (h i).resolve_right (Option.isSome_iff_ne_none.mp hsome)
  have hj := (h j).resolve_right (heq ▸ Option.isSome_iff_ne_none.mp hsome)
  exact hf i j hne (hi ▸ hsome) (hi ▸ hj ▸ heq)

/-- One slot has an entry that no other slot has the generation of. -/
theorem generationsDistinct_set {f g : Fin 4 → SlotEntry} {slot : Fin 4} {e : SlotEntry} (hf : GenerationsDistinct f)
    (hg : ∀ i, g i = if i = slot then e else f i)
    (hfresh : (generationOf e).isSome = true → ∀ i, i ≠ slot → generationOf (f i) ≠ generationOf e) : GenerationsDistinct g := by
  intro i j hne hsome
  simp only [hg] at hsome ⊢
  by_cases hi : i = slot
  · have hj : j ≠ slot := fun hj => hne (hi.trans hj.symm)
    rw [if_pos hi] at hsome
    rw [if_pos hi, if_neg hj]
    exact (hfresh hsome j hj).symm
  · rw [if_neg hi] at hsome
    rw [if_neg hi]
    by_cases hj : j = slot
    · rw [if_pos hj]
      exact fun heq => hfresh (heq ▸ hsome) i hi heq
    · rw [if_neg hj]
      exact hf i j hne hsome

/-- R163: an entry as a scan would show it. -/
def shownEntry : SlotEntry → SlotEntry
  | .damaged info => .valid info
  | e => e

theorem generationOf_shownEntry (e : SlotEntry) : generationOf (shownEntry e) = generationOf e := by cases e <;> rfl

theorem shownEntry_classify (h : Header) : shownEntry (classify h) = classify h := by
  cases h with
  | valid info crc => simp only [classify]; split <;> rfl
  | _ => rfl

theorem StoreSound.shows {s : State} (hs : StoreSound s) (hrun : s.held = false) (hop : s.store.op ≠ some .scan) (i : Fin 4) :
    classify (s.nv.slots[i]).header = shownEntry s.store.table[i] := hs.2.2.2 hrun hop i

theorem StoreSound.table {s : State} (hs : StoreSound s) : GenerationsDistinct fun i => s.store.table[i] := hs.1

theorem StoreSound.headers {s : State} (hs : StoreSound s) : GenerationsDistinct fun i => classify (s.nv.slots[i]).header := hs.2.1

/-! ### One slot changes -/

theorem getElem_set_slot {α : Type} (v : Vector α 4) (slot i : Fin 4) (x : α) :
    (v.set slot x)[i] = if i = slot then x else v[i] := by
  by_cases h : i = slot
  · subst h
    rw [if_pos rfl]
    exact Vector.getElem_set_self ..
  · rw [if_neg h]
    exact Vector.getElem_set_ne _ _ fun heq => h (Fin.ext heq).symm

/-- Outside a scan one slot changes in table and store together. -/
theorem storeSound_of_slot {s t : State} {slot : Fin 4} {e : SlotEntry} {header : Header} (hs : StoreSound s)
    (hrun : s.held = false) (hbefore : s.store.op ≠ some .scan)
    (htable : ∀ i : Fin 4, t.store.table[i] = if i = slot then e else s.store.table[i])
    (hheaders : ∀ i : Fin 4, (t.nv.slots[i]).header = if i = slot then header else (s.nv.slots[i]).header)
    (hshows : classify header = shownEntry e)
    (hfresh : (generationOf e).isSome = true → ∀ i : Fin 4, i ≠ slot → generationOf s.store.table[i] ≠ generationOf e)
    (hop : opSound t = true) : StoreSound t := by
  refine ⟨generationsDistinct_set hs.table htable hfresh, ?_, hop, fun _ _ i => ?_⟩
  · refine generationsDistinct_set hs.headers (slot := slot) (e := classify header) (fun i => ?_) ?_
    · rw [hheaders i]
      split <;> rfl
    · intro hsome i hi
      rw [hshows, generationOf_shownEntry] at hsome ⊢
      rw [hs.shows hrun hbefore i, generationOf_shownEntry]
      exact hfresh hsome i hi
  · show classify (t.nv.slots[i]).header = shownEntry t.store.table[i]
    rw [hheaders i, htable i]
    split
    exacts [hshows, hs.shows hrun hbefore i]

/-- R172: every generation of the table is at most the highest. -/
theorem le_highestGeneration (table : Vector SlotEntry 4) (i : Fin 4) : countedGeneration table[i] ≤ highestGeneration table := by
  have hfold (l : List SlotEntry) (best : Nat) : best ≤ l.foldl (fun best e => max best (countedGeneration e)) best ∧
      ∀ e ∈ l, countedGeneration e ≤ l.foldl (fun best e => max best (countedGeneration e)) best := by
    induction l generalizing best with
    | nil => exact ⟨Nat.le_refl _, nofun⟩
    | cons e rest ih =>
      obtain ⟨hbest, hrest⟩ := ih (max best (countedGeneration e))
      exact ⟨(Nat.le_max_left _ _).trans hbest, List.forall_mem_cons.mpr ⟨(Nat.le_max_right _ _).trans hbest, hrest⟩⟩
  exact (hfold table.toList 0).2 _ (Vector.mem_toList_iff.mpr (Vector.getElem_mem i.isLt))

theorem generationOf_counted {e : SlotEntry} {g : Word} (h : generationOf e = some g) : countedGeneration e = g.toNat := by
  cases e <;> cases h <;> rfl

theorem highestGeneration_lt (table : Vector SlotEntry 4) : highestGeneration table < 2 ^ 32 := by
  have hcounted (e : SlotEntry) : countedGeneration e < 2 ^ 32 := by
    cases e
    case valid i => exact i.generation.isLt
    case damaged i => exact i.generation.isLt
    all_goals exact Nat.two_pow_pos 32
  have hfold (l : List SlotEntry) (best : Nat) (hbest : best < 2 ^ 32) :
      l.foldl (fun best e => max best (countedGeneration e)) best < 2 ^ 32 := by
    induction l generalizing best with
    | nil => exact hbest
    | cons e rest ih => exact ih _ (Nat.max_lt.mpr ⟨hbest, hcounted e⟩)
  exact hfold _ 0 (Nat.two_pow_pos 32)

/-- R171, R178: the slot of a save or an erase is marked, and the operation begins. -/
theorem storeSound_marked {s : State} {slot : Fin 4} (op : StoreOp) (buffer : Option (List Byte)) (hs : StoreSound s)
    (hrun : s.held = false) (hop : s.store.op = none)
    (hsound : opSound { markIncomplete slot s with store := { (markIncomplete slot s).store with op := some op, buffer := buffer } } = true) :
    StoreSound { markIncomplete slot s with store := { (markIncomplete slot s).store with op := some op, buffer := buffer } } := by
  refine storeSound_of_slot (slot := slot) (e := .incomplete) (header := .incomplete) hs hrun (by simp [hop])
    (getElem_set_slot _ slot · _) (fun i => ?_) rfl nofun hsound
  show ((s.nv.slots.set slot _)[i]).header = _
  rw [getElem_set_slot]
  split <;> rfl

theorem opSound_save {s : State} {tag : Byte} {slot : Fin 4} {generation : Word} {label : Vector Byte 8}
    (hop : s.store.op = some (.save tag slot generation label)) : opSound s = true ↔
      s.store.table[slot] = .incomplete ∧ s.store.view.setting.mask.getLsbD slot.val = false ∧
        ∀ (i : Fin 4) (g : Word), generationOf s.store.table[i] = some g → g.toNat < generation.toNat := by
  simp only [opSound, hop, Bool.and_eq_true, beq_iff_eq, Bool.not_eq_true', List.all_eq_true, Option.all_eq_true,
    decide_eq_true_eq, List.mem_finRange, true_imp_iff, and_assoc]

theorem opSound_erase {s : State} {tag : Byte} {slot : Fin 4} (hop : s.store.op = some (.erase tag slot)) :
    opSound s = true ↔ s.store.table[slot] = .incomplete ∧ s.store.view.setting.mask.getLsbD slot.val = false := by
  simp only [opSound, hop, Bool.and_eq_true, beq_iff_eq, Bool.not_eq_true']

theorem opSound_of_none {s : State} (hop : s.store.op = none) : opSound s = true := by simp [opSound, hop]

/-- A save or an erase ends with its slot as it now stands in table and store. -/
theorem storeSound_endSlot {s : State} {op : StoreOp} {slot : Fin 4} {e : SlotEntry} {v : NvSlot} (hs : StoreSound s)
    (hrun : s.held = false) (hop : s.store.op = some op) (hscan : op ≠ .scan) (hshows : classify v.header = shownEntry e)
    (hfresh : (generationOf e).isSome = true → ∀ i : Fin 4, i ≠ slot → generationOf s.store.table[i] ≠ generationOf e) :
    StoreSound (storeIdle (setEntry slot e (setNvSlot slot v s))) := by
  refine storeSound_of_slot (slot := slot) (header := v.header) hs hrun (by simp [hop, hscan]) (getElem_set_slot _ slot · e)
    (fun i => ?_) hshows hfresh rfl
  show ((s.nv.slots.set slot v)[i]).header = _
  rw [getElem_set_slot]
  split <;> rfl

/-- A save or an erase ends with FAULT: the slot is INCOMPLETE already. -/
theorem storeSound_failSlot {s : State} {op : StoreOp} {slot : Fin 4} (body : Option (List Byte)) (hs : StoreSound s)
    (hrun : s.held = false) (hop : s.store.op = some op) (hscan : op ≠ .scan) (hmarked : s.store.table[slot] = .incomplete) :
    StoreSound (storeIdle (setNvSlot slot { header := .incomplete, body := body } s)) := by
  refine storeSound_of_slot (slot := slot) (e := .incomplete) (header := .incomplete) hs hrun (by simp [hop, hscan])
    (fun i => ?_) (fun i => ?_) rfl nofun rfl
  · show s.store.table[i] = _
    split
    next heq => rw [heq]; exact hmarked
    next => rfl
  · show ((s.nv.slots.set slot _)[i]).header = _
    rw [getElem_set_slot]
    split <;> rfl

/-- The operation changes, outside a scan, to one that is neither a save nor an erase. -/
theorem storeSound_withOp {s t : State} (hs : StoreSound s) (hbefore : s.held = false → s.store.op ≠ some .scan)
    (hheld : t.held = s.held) (htable : t.store.table = s.store.table)
    (hheaders : ∀ i : Fin 4, (t.nv.slots[i]).header = (s.nv.slots[i]).header) (hop : opSound t = true) : StoreSound t := by
  refine ⟨by simpa only [htable] using hs.table, by simpa only [hheaders] using hs.headers, hop, fun hrun _ i => ?_⟩
  show classify (t.nv.slots[i]).header = shownEntry t.store.table[i]
  rw [hheaders, htable]
  exact hs.shows (hheld ▸ hrun) (hbefore (hheld ▸ hrun)) i

theorem storeSound_endBootEmpty {s : State} (hs : StoreSound s) : StoreSound (endBootEmpty s) := by
  refine storeSound_of_notice ?_ (reportBoot_step _ _)
  obtain ⟨_, _, h⟩ := setShadowBank_eq Bank.empty s
  rw [h]
  exact hs

theorem storeSound_chooseCandidate {s : State} (hs : StoreSound s) (hop : s.store.op = none) :
    StoreSound (chooseCandidate s) := by
  unfold chooseCandidate
  split
  · exact hs
  · split
    · exact storeSound_withOp hs (by simp [hop]) rfl rfl (fun _ => rfl) rfl
    · exact storeSound_endBootEmpty hs

theorem generationOf_damagedEntry (e : SlotEntry) : generationOf (damagedEntry e) = generationOf e := by cases e <;> rfl

theorem shownEntry_damagedEntry (e : SlotEntry) : shownEntry (damagedEntry e) = shownEntry e := by cases e <;> rfl

/-- A load that fails marks its slot DAMAGED. -/
theorem storeSound_damaged {s : State} {op : StoreOp} (slot : Fin 4) (hs : StoreSound s) (hrun : s.held = false)
    (hop : s.store.op = some op) (hscan : op ≠ .scan) :
    StoreSound (setEntry slot (damagedEntry s.store.table[slot]) (endLoad slot s)) := by
  have hbefore : s.store.op ≠ some .scan := by simp [hop, hscan]
  refine storeSound_of_slot (slot := slot) (header := (s.nv.slots[slot]).header) hs hrun hbefore
    (getElem_set_slot _ slot · _) (fun i => ?_) ?_ (fun hsome i hi => ?_) rfl
  · split
    next heq => rw [heq]; rfl
    next => rfl
  · rw [shownEntry_damagedEntry]
    exact hs.shows hrun hbefore slot
  · rw [generationOf_damagedEntry] at hsome ⊢
    exact (hs.table slot i hi.symm hsome).symm

theorem storeSound_scanned {s : State} (hs : StoreSound s) : StoreSound (scanned s) := by
  have htable (i : Fin 4) : (scanned s).store.table[i] = classify (s.nv.slots[i]).header := Vector.getElem_ofFn ..
  refine ⟨?_, hs.headers, rfl, fun _ _ i => ?_⟩
  · simp only [htable]
    exact hs.headers
  · show classify (s.nv.slots[i]).header = shownEntry (scanned s).store.table[i]
    rw [htable, shownEntry_classify]

theorem storeSound_setShadowBank (b : Bank) {s : State} (hs : StoreSound s) : StoreSound (setShadowBank b s) := by
  obtain ⟨_, _, h⟩ := setShadowBank_eq b s
  rw [h]
  exact hs

theorem storeSound_swap {s : State} (hs : StoreSound s) : StoreSound (swap s) := by
  obtain ⟨_, _, _, _, h⟩ := swap_eq s
  rw [h]
  exact hs

theorem storeSound_control {s t : State} (hrun : s.held = false) (hc : ControlSound s) (hs : StoreSound s)
    (h : ControlMove s t) : StoreSound t := by
  cases h with
  | write => exact storeSound_setShadowBank _ hs
  | record => exact storeSound_setShadowBank _ hs
  | copied => exact storeSound_setShadowBank (activeBank s) hs
  | arm => exact storeSound_setShadowBank (recordEmits (shadowBank s)) hs
  | armNow => exact storeSound_swap (storeSound_setShadowBank (recordEmits (shadowBank s)) hs)
  | swap => exact storeSound_swap hs
  | copy => exact hs
  | validate => exact hs
  | validated => exact hs
  | commit => exact hs
  | endCommit => exact hs
  | bodyRead slot body =>
    refine storeSound_of_parts ?_ hs
    have hheaders (i : Fin 4) :
        ((s.nv.slots.set slot { s.nv.slots[slot] with body := body })[i]).header = (s.nv.slots[i]).header := by
      rw [getElem_set_slot]
      split
      next heq => rw [heq]
      next => rfl
    exact congrArg (fun headers => (s.held, s.store, headers)) (funext hheaders)
  | bootTestFailed fault hvalidating =>
    obtain ⟨r, -, hop, hcommit⟩ := hc.booting_of_test hrun hvalidating
    have hended : endCommit (.commitInvalid fault) s = { s with shadow := .editable, commit := none } := by
      simp [endCommit, hcommit]
    rw [hended]
    exact storeSound_chooseCandidate hs hop
  | save f hop _ hunprotected hgeneration =>
    refine storeSound_marked _ _ hs hrun hop ((opSound_save rfl).mpr ⟨?_, hunprotected, fun i g hg => ?_⟩)
    · exact (getElem_set_slot _ _ _ _).trans (if_pos rfl)
    · have hle : g.toNat ≤ highestGeneration s.store.table := by
        have htable : (markIncomplete (paramFin 4 f.params 1) s).store.table[i] = _ := getElem_set_slot _ _ i _
        have hg' : generationOf (markIncomplete (paramFin 4 f.params 1) s).store.table[i] = some g := hg
        rw [htable] at hg'
        split at hg'
        · cases hg'
        · exact (generationOf_counted hg') ▸ le_highestGeneration s.store.table i
      have hlt := highestGeneration_lt s.store.table
      rw [BitVec.toNat_ofNat, Nat.mod_eq_of_lt (by omega)]
      omega
  | erase f hop _ hunprotected =>
    refine storeSound_marked _ s.store.buffer hs hrun hop ((opSound_erase rfl).mpr ⟨?_, hunprotected⟩)
    exact (getElem_set_slot _ _ _ _).trans (if_pos rfl)
  | load tag slot hop => exact storeSound_withOp hs (by simp [hop]) rfl rfl (fun _ => rfl) rfl
  | dirWrite f d hop => exact storeSound_withOp hs (by simp [hop]) rfl rfl (fun _ => rfl) rfl
  | @saved tag slot generation label crc body hop =>
    obtain ⟨-, -, hgreater⟩ := (opSound_save hop).mp hs.2.2.1
    exact storeSound_endSlot hs hrun hop nofun rfl fun _ i _ heq => Nat.lt_irrefl _ (hgreater i generation heq)
  | saveFailed body hop => exact storeSound_failSlot body hs hrun hop nofun ((opSound_save hop).mp hs.2.2.1).1
  | erased hop => exact storeSound_endSlot hs hrun hop nofun rfl nofun
  | eraseFailed body hop => exact storeSound_failSlot body hs hrun hop nofun ((opSound_erase hop).mp hs.2.2.1).1
  | @dirWritten tag d target sequence copy view hop =>
    refine storeSound_withOp hs (by simp [hop]) rfl rfl (fun _ => ?_) rfl
    cases target <;> rfl
  | loaded hop =>
    exact storeSound_setShadowBank _ (storeSound_withOp (t := endLoad _ s) hs (by simp [hop]) rfl rfl (fun _ => rfl) rfl)
  | bootLoaded hop =>
    exact storeSound_setShadowBank _ (storeSound_withOp (t := endLoad _ s) hs (by simp [hop]) rfl rfl (fun _ => rfl) rfl)
  | loadFailed hop => exact storeSound_damaged _ hs hrun hop nofun
  | bootLoadFailed hop => exact storeSound_chooseCandidate (storeSound_damaged _ hs hrun hop nofun) rfl
  | bootScanned => exact storeSound_chooseCandidate (storeSound_scanned hs) rfl
  | keptScanned => exact storeSound_of_notice (storeSound_scanned hs) (reportBoot_step _ _)

/-! ### The ends of an operation by a restart or a hard reset (R183) -/

/-- R183: an interruption leaves the generations of the headers, but for the slot of a save or an erase. -/
theorem generationsDistinct_interrupted (op : Option StoreOp) (n : Nat) {nv : NvStore}
    (h : GenerationsDistinct fun i => classify (nv.slots[i]).header) :
    GenerationsDistinct fun i => classify ((interruptedNv op n nv).slots[i]).header := by
  have hspec := interruptedNv_spec op n nv
  have hslot {slot : Fin 4} (hheader : ((interruptedNv op n nv).slots[slot]).header = .incomplete ∨
      ((interruptedNv op n nv).slots[slot]).header = .erased)
      (hothers : ∀ i : Fin 4, i ≠ slot → (interruptedNv op n nv).slots[i] = nv.slots[i]) (i : Fin 4) :
      generationOf (classify ((interruptedNv op n nv).slots[i]).header) = generationOf (classify (nv.slots[i]).header) ∨
        generationOf (classify ((interruptedNv op n nv).slots[i]).header) = none := by
    by_cases hi : i = slot
    · obtain h | h := hheader <;> rw [hi, h] <;> exact .inr rfl
    · exact .inl (by rw [hothers i hi])
  unfold Interrupted at hspec
  split at hspec
  · obtain ⟨hheader, hothers, -⟩ := hspec
    exact generationsDistinct_of_kept h (hslot (.inl hheader) hothers)
  · obtain ⟨hheader, hothers, -⟩ := hspec
    exact generationsDistinct_of_kept h (hslot hheader hothers)
  · simpa only [hspec.2.2] using h
  · simpa only [hspec.2.2] using h
  all_goals simpa only [hspec] using h

theorem storeSound_beginRestart (form : RestartForm) {s : State} (hs : StoreSound s) : StoreSound (beginRestart form s) := by
  obtain ⟨bankA, bankB, h⟩ := endBankWork_fields s
  simp only [beginRestart, interruptStore, h]
  exact ⟨hs.table, generationsDistinct_interrupted _ _ hs.headers, rfl, fun _ hop => absurd rfl hop⟩

/-- The invariants of the control and the store, together. -/
theorem storeSound_invariant : Invariant fun s => ControlSound s ∧ StoreSound s where
  commands _ _ hs := hs
  pins _ _ hs := hs
  hardReset s hs := by
    refine ⟨controlSound_invariant.hardReset s hs.1, ?_⟩
    obtain ⟨bankA, bankB, h⟩ := endBankWork_fields s
    simp only [beginHardReset, interruptStore, h]
    exact ⟨hs.2.table, generationsDistinct_interrupted _ _ hs.2.headers, rfl, nofun⟩
  release s pins hs := by
    refine ⟨controlSound_invariant.release s pins hs.1, ?_, hs.2.headers, rfl, fun _ hop => absurd rfl hop⟩
    intro i j _ hsome
    fin_cases i <;> cases hsome
  move s t hrun hs h := ⟨controlSound_move hrun hs.1 h,
    Move.keeps_control storeSound_of_places (fun form _ => storeSound_beginRestart form)
      (storeSound_control hrun hs.1 hs.2) hs.2 h⟩

/-- Settles O60: the generations are kept with the states of the control. -/
theorem stepKeepsGenerationsDistinct : Obligations.StepKeepsGenerationsDistinct :=
  fun _ _ hc hs h => (storeSound_invariant.step ⟨hc, hs⟩ h).2

end Sys2Proof.Machine

/-! O58: one notice of an unsolicited kind. -/

namespace Sys2Proof.Machine

/-! ### The notice unit and the local queue -/

/-- R152: the local queue holds one notice of each QUEUED kind, and none of the others. -/
def QueuedOnce (n : NoticeUnit) (q : List LocalFrame) : Prop :=
  ∀ k, noticesWaiting k q = if n.outstanding k = .queued then 1 else 0

/-- A notice in the local queue, by its kind. -/
def noticeOf (k : UnsolicitedKind) : LocalFrame → Bool
  | .notice n => n.code == k.code
  | .response _ => false

theorem noticesWaiting_cons (k : UnsolicitedKind) (f : LocalFrame) (q : List LocalFrame) :
    noticesWaiting k (f :: q) = noticesWaiting k q + if noticeOf k f then 1 else 0 := by
  have hfilter (l : List LocalFrame) : noticesWaiting k l = (l.filter (noticeOf k)).length := by
    unfold noticesWaiting
    congr 2
  rw [hfilter, hfilter, List.filter_cons]
  cases noticeOf k f <;> simp

theorem noticesWaiting_append (k : UnsolicitedKind) (q : List LocalFrame) (f : LocalFrame) :
    noticesWaiting k (q ++ [f]) = noticesWaiting k q + if noticeOf k f then 1 else 0 := by
  induction q with
  | nil => exact noticesWaiting_cons k f []
  | cons g rest ih => rw [List.cons_append, noticesWaiting_cons, noticesWaiting_cons, ih]; omega

theorem unsolicitedCode_injective {j k : UnsolicitedKind} (h : j.code = k.code) : j = k := by
  revert h
  cases j <;> cases k <;> decide

theorem completionCode_ne (j : CompletionKind) (k : UnsolicitedKind) : j.code ≠ k.code := by
  cases j <;> cases k <;> decide

@[simp] theorem outstanding_setOutstanding (n : NoticeUnit) (j k : UnsolicitedKind) (o : Outstanding) :
    (n.setOutstanding j o).outstanding k = if k = j then o else n.outstanding k := by
  cases j <;> cases k <;> rfl

@[simp] theorem outstanding_clearRecord (n : NoticeUnit) (j k : UnsolicitedKind) :
    (n.clearRecord j).outstanding k = n.outstanding k := by
  cases j <;> cases k <;> rfl

theorem bootDone_eq (n : NoticeUnit) : n.outstanding .bootDone = n.bootDone := rfl

/-- Only the places of the completions, the records or the mask differ: the kinds stand as they stood. -/
theorem QueuedOnce.of_outstanding {m n : NoticeUnit} {q : List LocalFrame} (h : QueuedOnce n q)
    (heq : ∀ k, m.outstanding k = .queued ↔ n.outstanding k = .queued) : QueuedOnce m q := by
  intro k
  simp only [heq k]
  exact h k

theorem QueuedOnce.append {n : NoticeUnit} {q : List LocalFrame} {f : LocalFrame} (h : QueuedOnce n q)
    (hf : ∀ k, noticeOf k f = false) : QueuedOnce n (q ++ [f]) := by
  intro k
  rw [noticesWaiting_append, hf k]
  exact h k

theorem unsolicitedOf_eq_some {code : Byte} {k : UnsolicitedKind} : unsolicitedOf code = some k ↔ code = k.code := by
  unfold unsolicitedOf
  cases k <;> simp only [UnsolicitedKind.code] <;> grind

theorem outstanding_started_other (n : NoticeUnit) {j k : UnsolicitedKind} (h : j ≠ k) :
    (n.started k).outstanding j = n.outstanding j := by
  have hset (o : Outstanding) : (n.setOutstanding k o).outstanding j = n.outstanding j := by simp [h]
  unfold NoticeUnit.started
  split
  · rw [← hset .pending]
    cases j <;> rfl
  · exact hset .idle

theorem outstanding_started_self (n : NoticeUnit) (k : UnsolicitedKind) : (n.started k).outstanding k ≠ .queued := by
  unfold NoticeUnit.started
  split <;> cases k <;> exact nofun

/-- R152: the start of a local frame takes its kind out of QUEUED. -/
theorem QueuedOnce.frameStarted {n : NoticeUnit} {f : LocalFrame} {rest : List LocalFrame} (h : QueuedOnce n (f :: rest)) :
    QueuedOnce (n.frameStarted f) rest := by
  have hkept (hf : ∀ k, noticeOf k f = false) : QueuedOnce n rest := by
    intro k
    have hk := h k
    rwa [noticesWaiting_cons, hf k] at hk
  cases f with
  | response r => exact hkept fun _ => rfl
  | notice f =>
    dsimp only [NoticeUnit.frameStarted]
    split
    next k hcode =>
      have hk : n.outstanding k = .queued ∧ noticesWaiting k rest = 0 := by
        have hwaiting := h k
        rw [noticesWaiting_cons] at hwaiting
        have : noticeOf k (.notice f) = true := by simp [noticeOf, unsolicitedOf_eq_some.mp hcode]
        grind
      rw [if_pos hk.1]
      intro j
      by_cases hj : j = k
      · subst hj
        simp [hk.2, outstanding_started_self]
      · have hwaiting := h j
        have hother : noticeOf j (.notice f) = false := by
          refine beq_false_of_ne fun heq => hj (unsolicitedCode_injective ?_)
          rw [← heq, unsolicitedOf_eq_some.mp hcode]
        rw [noticesWaiting_cons, hother] at hwaiting
        simpa [outstanding_started_other n hj] using hwaiting
    next hcode =>
      refine hkept fun k => beq_false_of_ne fun heq => ?_
      rw [unsolicitedOf_eq_some.mpr heq] at hcode
      cases hcode

theorem bootDone_frameStarted {n : NoticeUnit} (f : LocalFrame) (h : n.bootDone = .idle) : (n.frameStarted f).bootDone = .idle := by
  cases f with
  | response r => exact h
  | notice f =>
    dsimp only [NoticeUnit.frameStarted]
    split
    next k _ =>
      split
      next hqueued =>
        have hother : UnsolicitedKind.bootDone ≠ k := by
          rintro rfl
          exact absurd (h.symm.trans hqueued) nofun
        exact (outstanding_started_other n hother).trans h
      next => exact h
    next => exact h

/-! ### The notice operations -/

/-- What a notice operation keeps: the notices wait as their kinds stand, and BOOT_DONE is not raised. -/
structure NoticesKept (s t : State) : Prop where
  step : NoticeStep s t
  queued : QueuedOnce s.notices s.localQ → QueuedOnce t.notices t.localQ
  bootDone : s.notices.bootDone = .idle → t.notices.bootDone = .idle

theorem NoticesKept.refl (s : State) : NoticesKept s s := ⟨.refl s, id, id⟩

/-- The notice unit changes without a kind coming into QUEUED or out of it. -/
theorem NoticesKept.after {s t : State} {n : NoticeUnit} (h : NoticesKept { s with notices := n } t)
    (hqueued : ∀ k, n.outstanding k = .queued ↔ s.notices.outstanding k = .queued)
    (hboot : s.notices.bootDone = .idle → n.bootDone = .idle) : NoticesKept s t :=
  ⟨h.step.afterNotices, fun hs => h.queued (hs.of_outstanding hqueued), fun hs => h.bootDone (hboot hs)⟩

theorem isPending_of_firstPending {n : NoticeUnit} {k : NoticeKind} (h : n.firstPending = some k) : n.isPending k = true :=
  List.find?_some h

theorem formUnsolicited_queued {k : UnsolicitedKind} {s : State} (hpending : s.notices.outstanding k = .pending)
    (hs : QueuedOnce s.notices s.localQ) : QueuedOnce (formUnsolicited k s).notices (formUnsolicited k s).localQ := by
  intro j
  have hj := hs j
  show noticesWaiting j (s.localQ ++ [_]) = if ((s.notices.clearRecord k).setOutstanding k .queued).outstanding j = .queued then 1 else 0
  rw [noticesWaiting_append, hj, outstanding_setOutstanding]
  by_cases heq : j = k
  · subst heq
    simp [hpending, noticeOf, buildNotice]
  · have hcode : noticeOf j (.notice (buildNotice (addressByte s) 0 k.code (unsolicitedData s k))) = false :=
      beq_false_of_ne fun h => heq (unsolicitedCode_injective h).symm
    rw [hcode, if_neg heq, outstanding_clearRecord]
    rfl

theorem formNotice_kept {k : NoticeKind} {s : State} (hroom : s.localQ.length < 4) (hpending : s.notices.isPending k = true) :
    NoticesKept s (formNotice k s) := by
  cases k with
  | completion k =>
    dsimp only [formNotice, formCompletion]
    split
    · exact .refl s
    · refine ⟨⟨_, [_], rfl, .inr ⟨_, rfl, hroom⟩⟩, fun hs => ?_, id⟩
      exact QueuedOnce.append (hs.of_outstanding fun j => by cases j <;> rfl) fun j => beq_false_of_ne (completionCode_ne k j)
  | unsolicited k =>
    have hk : s.notices.outstanding k = .pending := beq_iff_eq.mp hpending
    refine ⟨⟨_, [_], rfl, .inr ⟨_, rfl, hroom⟩⟩, formUnsolicited_queued hk, fun hs => ?_⟩
    have hne : UnsolicitedKind.bootDone ≠ k := by
      rintro rfl
      rw [bootDone_eq, hs] at hk
      cases hk
    show ((s.notices.clearRecord k).setOutstanding k .queued).outstanding .bootDone = .idle
    rw [outstanding_setOutstanding, if_neg hne, outstanding_clearRecord]
    exact hs

theorem offerNotice_kept (s : State) : NoticesKept s (offerNotice s) := by
  by_cases hroom : s.localQ.length < 4
  · cases hfirst : s.notices.firstPending with
    | none => rw [offerNotice_of_none hfirst]; exact .refl s
    | some k => rw [offerNotice_of_room hroom hfirst]; exact formNotice_kept hroom (isPending_of_firstPending hfirst)
  · rw [offerNotice_of_full (Nat.not_lt.mp hroom)]
    exact .refl s

theorem raiseCompletion_kept (tag : Byte) (what : Completion) (s : State) : NoticesKept s (raiseCompletion tag what s) := by
  dsimp only [raiseCompletion]
  split
  · exact (offerNotice_kept _).after (fun k => by cases k <;> rfl) id
  · exact (NoticesKept.refl _).after (fun k => by cases k <;> rfl) id

theorem reportOverrun_kept (s : State) : NoticesKept s (reportOverrun s) := by
  unfold reportOverrun
  split
  · split
    next hidle =>
      refine (offerNotice_kept _).after (fun k => ?_) id
      cases k
      case overrun => simp [NoticeUnit.outstanding, hidle]
      all_goals rfl
    next => exact .refl s
    next => exact (NoticesKept.refl _).after (fun k => by cases k <;> rfl) id
  · exact .refl s

theorem reportSequence_kept (g : Fin 16) (s : State) : NoticesKept s (reportSequence g s) := by
  unfold reportSequence
  split
  · dsimp only
    split
    next hidle =>
      refine (offerNotice_kept _).after (fun k => ?_) id
      cases k
      case sequence => simp [NoticeUnit.outstanding, hidle]
      all_goals rfl
    all_goals exact (NoticesKept.refl _).after (fun k => by cases k <;> rfl) id
  · exact .refl s

/-- R155: BOOT_DONE is raised when none is outstanding. -/
theorem reportBoot_queued (o : BootOutcome) {s : State} (hidle : s.notices.bootDone = .idle)
    (hs : QueuedOnce s.notices s.localQ) : QueuedOnce (reportBoot o s).notices (reportBoot o s).localQ := by
  unfold reportBoot
  split
  · refine (offerNotice_kept _).queued (hs.of_outstanding fun k => ?_)
    cases k
    case bootDone => simp [NoticeUnit.outstanding, hidle]
    all_goals rfl
  · exact hs

/-- R156: under a new mask a kind stays QUEUED. -/
theorem outstanding_setMask (n : NoticeUnit) (mask : BitVec 3) (k : UnsolicitedKind) :
    ((n.setMask mask).outstanding k = .queued ↔ n.outstanding k = .queued) ∧
      (n.outstanding k = .idle → (n.setMask mask).outstanding k = .idle) := by
  have hremask (m : NoticeUnit) (j : UnsolicitedKind) : ((m.remask mask j).outstanding k = .queued ↔ m.outstanding k = .queued) ∧
      (m.outstanding k = .idle → (m.remask mask j).outstanding k = .idle) := by
    unfold NoticeUnit.remask NoticeUnit.disable
    split
    · split
      · simp
      next hpending =>
        by_cases hk : k = j
        · subst hk
          simp [hpending]
        · simp [hk]
      · simp
    · simp
  have hboot := hremask n .bootDone
  have hoverrun := hremask (n.remask mask .bootDone) .overrun
  have hsequence := hremask ((n.remask mask .bootDone).remask mask .overrun) .sequence
  have hlast : (n.setMask mask).outstanding k = (((n.remask mask .bootDone).remask mask .overrun).remask mask .sequence).outstanding k := by
    cases k <;> rfl
  rw [hlast]
  exact ⟨hsequence.1.trans (hoverrun.1.trans hboot.1), fun h => hsequence.2 (hoverrun.2 (hboot.2 h))⟩

/-! ### The moves -/

/-- R155: a scan or a boot is in progress. -/
def BootWork (s : State) : Prop := s.store.op = some .scan ∨ s.boot.isSome = true

theorem noticesSound_iff {s : State} (hrun : s.held = false) :
    NoticesSound s ↔ QueuedOnce s.notices s.localQ ∧ (BootWork s → s.notices.bootDone = .idle) :=
  ⟨fun h => h hrun, fun h _ => h⟩

theorem noticesSound_of_kept {s t : State} (hs : NoticesSound s) (h : NoticesKept s t) : NoticesSound t := by
  intro hrun
  obtain ⟨hqueued, hboot⟩ := hs (h.step.held ▸ hrun)
  refine ⟨h.queued hqueued, fun hwork => h.bootDone (hboot ?_)⟩
  rwa [h.step.store, h.step.boot] at hwork

/-- Neither the notices nor the local queue change, and no scan or boot begins. -/
theorem noticesSound_of_parts {s t : State} (hs : NoticesSound s) (hheld : t.held = s.held) (hnotices : t.notices = s.notices)
    (hqueue : t.localQ = s.localQ) (hwork : BootWork t → BootWork s) : NoticesSound t := by
  intro hrun
  obtain ⟨hqueued, hboot⟩ := hs (hheld ▸ hrun)
  exact ⟨by rw [hnotices, hqueue]; exact hqueued, fun h => by rw [hnotices]; exact hboot (hwork h)⟩

theorem BootWork.of_store {s t : State} (hstore : t.store.op = s.store.op) (hboot : t.boot = s.boot) (h : BootWork t) :
    BootWork s := by
  unfold BootWork at h ⊢
  rwa [hstore, hboot] at h

/-- A store operation that is no scan has taken the place of another. -/
theorem BootWork.of_op {s t : State} (hop : t.store.op ≠ some .scan) (hboot : t.boot = s.boot) (h : BootWork t) : BootWork s :=
  .inr (hboot ▸ h.resolve_left hop)

theorem noticesSound_setShadowBank (b : Bank) {s : State} (hs : NoticesSound s) : NoticesSound (setShadowBank b s) := by
  obtain ⟨_, _, h⟩ := setShadowBank_eq b s
  rw [h]
  exact hs

theorem RunningSound.noticesSound_swap {s : State} (h : RunningSound s) (hs : NoticesSound s) : NoticesSound (Machine.swap s) := by
  have hswapped : NoticesSound (afterSwap s) := hs
  rw [swap_eq_afterSwap]
  split
  · exact noticesSound_of_kept hswapped (raiseCompletion_kept _ _ _)
  next hcommit => exact absurd (h.record _ hcommit).1 nofun
  · exact hswapped

/-- R155: a boot ends and its outcome is reported. -/
theorem noticesSound_reportBoot {s u : State} (o : BootOutcome) (hrun : s.held = false) (hs : NoticesSound s) (hwork : BootWork s)
    (hheld : u.held = s.held) (hnotices : u.notices = s.notices) (hqueue : u.localQ = s.localQ) (hboot : u.boot = none)
    (hop : u.store.op ≠ some .scan) : NoticesSound (reportBoot o u) := by
  obtain ⟨hqueued, hidle⟩ := hs hrun
  intro _
  refine ⟨reportBoot_queued o (by rw [hnotices]; exact hidle hwork) (by rw [hnotices, hqueue]; exact hqueued), ?_⟩
  rintro (h | h)
  · exact absurd (reportBoot_store o u ▸ h) hop
  · rw [reportBoot_boot, hboot] at h
    cases h

theorem noticesSound_endBootEmpty {s : State} (hrun : s.held = false) (hs : NoticesSound s) (hwork : BootWork s)
    (hop : s.store.op = none) : NoticesSound (endBootEmpty s) := by
  obtain ⟨_, _, h⟩ := setShadowBank_eq Bank.empty s
  unfold endBootEmpty
  rw [h]
  exact noticesSound_reportBoot .empty hrun hs hwork rfl rfl rfl rfl (by simp [hop])

theorem noticesSound_chooseCandidate {s : State} (hrun : s.held = false) (hs : NoticesSound s) (hop : s.store.op = none) :
    NoticesSound (chooseCandidate s) := by
  cases hboot : s.boot with
  | none => rwa [chooseCandidate, hboot]
  | some r =>
    have hwork : BootWork s := .inr (by simp [hboot])
    cases hcandidate : candidate s.store r.tried with
    | none => rw [chooseCandidate_of_none hboot hcandidate]; exact noticesSound_endBootEmpty hrun hs hwork hop
    | some best =>
      rw [chooseCandidate_of_some hboot hcandidate]
      exact noticesSound_of_parts hs rfl rfl rfl fun _ => hwork

theorem noticesSound_endBootLoaded {s : State} (hrun : s.held = false) (hs : NoticesSound s) (hwork : BootWork s)
    (hop : s.store.op ≠ some .scan) : NoticesSound (endBootLoaded s) := by
  unfold endBootLoaded
  dsimp only
  split
  · exact noticesSound_reportBoot _ hrun hs hwork rfl rfl rfl rfl hop
  · exact noticesSound_of_parts hs rfl rfl rfl fun h => h.elim (fun h => absurd h hop) nofun

theorem noticesSound_armNow {s : State} {purpose : Purpose} {tag : Option Byte} (hrun : s.held = false) (hc : ControlSound s)
    (hs : NoticesSound s) (hvalidating : s.shadow = .validating purpose tag) (hpurpose : purpose ≠ .validate) :
    NoticesSound (swap (arm s)) := by
  have harm : NoticesSound (arm s) := noticesSound_setShadowBank (recordEmits (shadowBank s)) hs
  cases purpose with
  | validate => exact absurd rfl hpurpose
  | commit =>
    exact ((hc.running_of_shadow hrun (by simp [hvalidating]) (by simp [hvalidating])
      (by simp [hvalidating])).arm hvalidating).noticesSound_swap harm
  | boot =>
    obtain ⟨r, hr, hop, hcommit⟩ := hc.booting_of_test hrun hvalidating
    have harmed : (arm s).commit = some { origin := .boot, tag := none, mode := .now, timeout := 0, timer := decide ((0 : Half) ≠ 0) } := by
      simp [arm, hcommit]
    have hheld : (afterSwap (arm s)).held = false := (setShadowBank_held _ s).trans hrun
    have hwork : BootWork (afterSwap (arm s)) := .inr (by
      show (setShadowBank (recordEmits (shadowBank s)) s).boot.isSome = true
      rw [setShadowBank_boot, hr.boot]
      rfl)
    have hop' : (afterSwap (arm s)).store.op ≠ some .scan := by
      show (setShadowBank (recordEmits (shadowBank s)) s).store.op ≠ some .scan
      rw [setShadowBank_store, hop]
      nofun
    rw [swap_eq_afterSwap, harmed]
    exact noticesSound_endBootLoaded hheld harm hwork hop'

theorem noticesSound_control {s t : State} (hrun : s.held = false) (hc : ControlSound s) (hs : NoticesSound s)
    (h : ControlMove s t) : NoticesSound t := by
  cases h with
  | write => exact noticesSound_setShadowBank _ hs
  | record => exact noticesSound_setShadowBank _ hs
  | copied => exact noticesSound_setShadowBank (activeBank s) hs
  | arm => exact noticesSound_setShadowBank (recordEmits (shadowBank s)) hs
  | armNow hvalidating hpurpose => exact noticesSound_armNow hrun hc hs hvalidating hpurpose
  | swap harmed =>
    exact (hc.running_of_shadow hrun (by simp [harmed]) (by simp [harmed]) (by simp [harmed])).noticesSound_swap hs
  | copy => exact hs
  | validate => exact hs
  | validated => exact hs
  | commit => exact hs
  | endCommit => exact hs
  | bodyRead => exact hs
  | bootTestFailed fault hvalidating =>
    obtain ⟨r, -, hop, hcommit⟩ := hc.booting_of_test hrun hvalidating
    have hended : endCommit (.commitInvalid fault) s = { s with shadow := .editable, commit := none } := by
      simp [endCommit, hcommit]
    rw [hended]
    exact noticesSound_chooseCandidate hrun hs hop
  | save => exact noticesSound_of_parts hs rfl rfl rfl (.of_op nofun rfl)
  | erase => exact noticesSound_of_parts hs rfl rfl rfl (.of_op nofun rfl)
  | load => exact noticesSound_of_parts hs rfl rfl rfl (.of_op nofun rfl)
  | dirWrite => exact noticesSound_of_parts hs rfl rfl rfl (.of_op nofun rfl)
  | saved => exact noticesSound_of_parts hs rfl rfl rfl (.of_op nofun rfl)
  | saveFailed => exact noticesSound_of_parts hs rfl rfl rfl (.of_op nofun rfl)
  | erased => exact noticesSound_of_parts hs rfl rfl rfl (.of_op nofun rfl)
  | eraseFailed => exact noticesSound_of_parts hs rfl rfl rfl (.of_op nofun rfl)
  | dirWritten => exact noticesSound_of_parts hs rfl rfl rfl (.of_op nofun rfl)
  | loaded =>
    exact noticesSound_setShadowBank _ (noticesSound_of_parts (t := endLoad _ s) hs rfl rfl rfl (.of_op nofun rfl))
  | loadFailed => exact noticesSound_of_parts hs rfl rfl rfl (.of_op nofun rfl)
  | @bootLoaded slot b hop =>
    obtain ⟨r, hr, -⟩ := hc.booting_of_load hrun hop
    obtain ⟨_, _, heq⟩ := setShadowBank_eq b (endLoad slot s)
    rw [heq]
    exact noticesSound_of_parts hs rfl rfl rfl fun _ => .inr (by simp [hr.boot])
  | bootLoadFailed =>
    exact noticesSound_chooseCandidate hrun
      (noticesSound_of_parts (t := setEntry _ _ (endLoad _ s)) hs rfl rfl rfl (.of_op nofun rfl)) rfl
  | bootScanned =>
    exact noticesSound_chooseCandidate hrun (noticesSound_of_parts (t := scanned s) hs rfl rfl rfl (.of_op nofun rfl)) rfl
  | keptScanned hop hboot => exact noticesSound_reportBoot .kept hrun hs (.inl hop) rfl rfl rfl hboot nofun

/-- A frame that is no notice joins the local queue. -/
theorem noticesSound_pushResponse {s t : State} (r : ResponseFrame) (hs : NoticesSound s) (hheld : t.held = s.held)
    (hnotices : t.notices = s.notices) (hqueue : t.localQ = s.localQ ++ [.response r]) (hop : t.store.op = s.store.op)
    (hboot : t.boot = s.boot) : NoticesSound t := by
  intro hrun
  obtain ⟨hqueued, hidle⟩ := (noticesSound_iff (hheld ▸ hrun)).mp hs
  refine ⟨?_, fun h => by rw [hnotices]; exact hidle (BootWork.of_store hop hboot h)⟩
  rw [hnotices, hqueue]
  exact hqueued.append fun _ => rfl

theorem noticesSound_startLocal {s : State} (hs : NoticesSound s) : NoticesSound (startLocal s) := by
  unfold startLocal
  split
  next => exact hs
  next f rest hhead =>
    intro hrun
    obtain ⟨hqueued, hidle⟩ := (noticesSound_iff (s := s) hrun).mp hs
    rw [hhead] at hqueued
    exact ⟨hqueued.frameStarted, fun hwork => bootDone_frameStarted f (hidle hwork)⟩

theorem noticesSound_move {s t : State} (hrun : s.held = false) (hc : ControlSound s) (hs : NoticesSound s) (h : Move s t) :
    NoticesSound t := by
  cases h with
  | control h => exact noticesSound_control hrun hc hs h
  | restart => exact fun _ => ⟨fun k => by cases k <;> rfl, fun _ => rfl⟩
  | form => exact noticesSound_of_kept hs (offerNotice_kept s)
  | raise tag what => exact noticesSound_of_kept hs (raiseCompletion_kept tag what s)
  | overrun => exact noticesSound_of_kept hs (reportOverrun_kept s)
  | sequence g => exact noticesSound_of_kept hs (reportSequence_kept g s)
  | setMask mask =>
    refine noticesSound_of_kept hs ((NoticesKept.refl _).after (fun k => (outstanding_setMask _ mask k).1) fun h => ?_)
    exact (outstanding_setMask _ mask .bootDone).2 h
  | receive port => cases port <;> exact hs
  | pass => obtain ⟨h, -⟩ | ⟨h, -⟩ := passUnchanged_eq _ (removeIngressHead _ s) <;> rw [h] <;> exact hs
  | startForward => unfold startForward; split <;> exact hs
  | startLocal => exact noticesSound_startLocal hs
  | answer response successor restart =>
    have hqueue := offerAnswer_localQ response successor restart s
    obtain ⟨_, _, _, h⟩ := offerAnswer_eq response successor restart s
    rw [h] at hqueue ⊢
    split at hqueue
    · exact noticesSound_pushResponse response hs rfl rfl hqueue rfl rfl
    · exact noticesSound_of_parts hs rfl rfl hqueue id
  | responseEnters _ hresponse => exact noticesSound_pushResponse _ hs rfl rfl rfl rfl rfl
  | _ => exact hs

theorem noticesSound_invariant : Invariant fun s => ControlSound s ∧ NoticesSound s where
  commands _ _ hs := hs
  pins _ _ hs := hs
  hardReset s hs := ⟨controlSound_invariant.hardReset s hs.1, nofun⟩
  release s pins hs := ⟨controlSound_invariant.release s pins hs.1, fun _ => ⟨fun k => by cases k <;> rfl, fun _ => rfl⟩⟩
  move _ _ hrun hs h := ⟨controlSound_move hrun hs.1 h, noticesSound_move hrun hs.1 hs.2 h⟩

/-- Settles O58: the notices are kept with the states of the control. -/
theorem stepKeepsOneNoticePerKind : Obligations.StepKeepsOneNoticePerKind :=
  fun _ _ hc hs h => (noticesSound_invariant.step ⟨hc, hs⟩ h).2

end Sys2Proof.Machine

/-! O1 to O4, O51: steps, completion, hard reset and its release. -/

namespace Sys2Proof.Machine

/-- Settles O51: each invariant by the values after reset. -/
theorem resetMeetsTheInvariants : Obligations.ResetMeetsTheInvariants := by
  refine ⟨⟨Nat.zero_le _, Nat.zero_le _, Nat.zero_le _, Nat.zero_le _, Nat.zero_le _, rfl, rfl⟩,
    ⟨stageFollows_of_idle nofun rfl, fun _ => rfl⟩, bindingSound_of_idle (stageFollows_of_idle nofun rfl) rfl,
    ⟨inService_empty, nofun⟩, ⟨wellFormed_empty, wellFormed_empty⟩,
    ⟨⟨rfl, nofun⟩, ⟨nofun, nofun⟩, fun _ => ⟨rfl, rfl, List.nodup_nil, rfl, rfl, rfl, rfl⟩⟩,
    ⟨⟨nofun, nofun⟩, fun _ => ⟨nofun, fun _ => Nat.zero_lt_succ 5⟩⟩, fun _ => ⟨fun k => by cases k <;> rfl, fun _ => rfl⟩,
    fun _ => rfl, ?_, ?_, rfl, fun _ hop => absurd rfl hop⟩
  · intro i j _ hsome
    fin_cases i <;> cases hsome
  · intro i j _ hsome
    fin_cases i <;> cases hsome

/-- Settles O1. -/
theorem stepRunsFrontCommand : Obligations.StepRunsFrontCommand := by
  refine ⟨fun c s rest h => ?_, fun s h => ?_⟩ <;> unfold step <;> rw [h]

/-! ### Every command completes -/

theorem exec_next (c : Instr) (s : State) : ∃ t, exec c s = .next t := by
  cases c <;> exact ⟨_, rfl⟩

theorem ControlMove.pending {s t : State} (h : ControlMove s t) : t.pending = s.pending :=
  ControlBlind.move (P := fun u => u.pending = s.pending)
    ⟨fun _ _ _ _ _ _ _ _ _ _ _ _ hs => hs, fun _ _ hs h => h.pending.trans hs⟩ rfl h

theorem endBankWork_pending (s : State) : (endBankWork s).pending = s.pending := by
  obtain ⟨_, _, h⟩ := endBankWork_fields s
  rw [h]

/-- The moves do not touch the queue of commands. -/
theorem Move.pending {s t : State} (h : Move s t) : t.pending = s.pending := by
  cases h with
  | control h => exact h.pending
  | restart => exact endBankWork_pending _
  | receive port => cases port <;> rfl
  | pass => obtain ⟨h, -⟩ | ⟨h, -⟩ := passUnchanged_eq _ (removeIngressHead _ s) <;> rw [h] <;> rfl
  | startForward => unfold Machine.startForward; split <;> rfl
  | startLocal => unfold Machine.startLocal; split <;> rfl
  | answer response successor restart => obtain ⟨_, _, _, h⟩ := offerAnswer_eq response successor restart s; rw [h]
  | form => exact offerNotice_pending s
  | raise tag what => exact raiseCompletion_pending tag what s
  | overrun => exact reportOverrun_pending s
  | sequence g => exact reportSequence_pending g s
  | _ => rfl

/-- Settles O2: every command is a chain of moves, a hard reset or a release. -/
theorem everyCommandCompletes : Obligations.EveryCommandCompletes := by
  refine ⟨fun c s => ?_, fun c s hheld hreset hrelease => exec_of_held hheld hreset hrelease⟩
  obtain ⟨t, ht⟩ := exec_next c s
  refine ⟨t, ht, ?_⟩
  obtain ⟨-, pins, rfl⟩ | ⟨-, pins, rfl⟩ | ⟨pins, rfl⟩ | ⟨-, hchain⟩ := exec_cases ht
  · rfl
  · rfl
  · exact endBankWork_pending s
  · exact hchain.keeps (P := fun u => u.pending = s.pending) (fun u v hu hmove => hmove.pending.trans hu) rfl

/-! ### Hard reset -/

theorem firstPending_clear (mask : BitVec 3) : (NoticeUnit.clear mask).firstPending = none := by
  refine (firstPending_eq_none _).mpr fun k => ?_
  cases k with
  | completion k => cases k <;> rfl
  | unsolicited k => cases k <;> rfl

theorem suppliesGood_iff {vddMv vddioMv : Nat} : suppliesGood vddMv vddioMv = true ↔ 1080 ≤ vddMv ∧ 2970 ≤ vddioMv :=
  decide_eq_true_iff

theorem suppliesGood_eq_false {vddMv vddioMv : Nat} : suppliesGood vddMv vddioMv = false ↔ vddMv < 1080 ∨ vddioMv < 2970 := by
  rw [← Bool.not_eq_true, suppliesGood_iff]
  omega

/-- Settles O3: what a hard reset leaves is what `beginHardReset` says, with the store as an interruption leaves it. -/
theorem hardResetEndsAllWork : Obligations.HardResetEndsAllWork := by
  refine ⟨fun s cause hrun hcause => ?_, fun s => ⟨fun durationUs h => ?_, fun vddMv vddioMv hvdd hvddio => ?_⟩⟩
  · have hreset : isHardReset cause = true := by
      cases cause with
      | resetLow durationUs => exact decide_eq_true hcause
      | supplies vddMv vddioMv => simp only [isHardReset, suppliesGood_eq_false.mpr hcause, Bool.not_false]
    refine ⟨{ beginHardReset s with pins := pinsWith s.pins cause }, ?_, ?_⟩
    · simp only [exec, execHardReset, hreset, hrun, if_true, Bool.false_eq_true, if_false]
    · obtain ⟨bankA, bankB, h⟩ := endBankWork_fields s
      have hkept : activeBank (beginHardReset s) = activeBank s ∧ (beginHardReset s).active = s.active := by
        have hended := ActiveKept.endBankWork s
        exact ⟨hended.2, hended.1⟩
      have hstore : (endBankWork s).store = s.store ∧ (endBankWork s).nv = s.nv := by rw [h]; exact ⟨rfl, rfl⟩
      refine ⟨rfl, rfl, rfl, rfl, rfl, rfl, rfl, rfl, rfl, rfl, rfl, rfl, rfl, rfl, rfl, rfl, rfl, firstPending_clear _,
        hkept.2, hkept.1, ?_⟩
      show Interrupted s.store.op s.nv (interruptedNv (endBankWork s).store.op (endBankWork s).freeCount (endBankWork s).nv)
      rw [hstore.1, hstore.2]
      exact interruptedNv_spec _ _ _
  · have hshort : isHardReset (.resetLow durationUs) = false := decide_eq_false (Nat.not_le.mpr h)
    simp only [exec, execHardReset, hshort, Bool.false_eq_true, if_false]
  · have hgood : isHardReset (.supplies vddMv vddioMv) = false := by
      simp only [isHardReset, suppliesGood_iff.mpr ⟨hvdd, hvddio⟩, Bool.not_true]
    simp only [exec, execHardReset, hgood, Bool.false_eq_true, if_false]

/-- Settles O4: the release takes the values after reset, and keeps the store. -/
theorem releaseGivesHardResetValues : Obligations.ReleaseGivesHardResetValues := by
  refine ⟨fun s p hheld hhigh hvdd hvddio hgood => ?_, fun s p h => ?_⟩
  · have hrelease : mayRelease p = true := by
      simp only [mayRelease, hhigh, suppliesGood_iff.mpr ⟨hvdd, hvddio⟩, Bool.true_and]
      exact decide_eq_true hgood
    simp only [exec, execHardResetRelease, hheld, hrelease, Bool.and_self, if_true, hhigh]
    rfl
  · have hnot : (s.held && mayRelease p) = false := by
      rw [Bool.and_eq_false_iff]
      obtain hrun | hlow | hvdd | hvddio | hshort := h
      · exact .inl hrun
      · exact .inr (by simp [mayRelease, hlow])
      · exact .inr (by simp [mayRelease, suppliesGood_eq_false.mpr (.inl hvdd)])
      · exact .inr (by simp [mayRelease, suppliesGood_eq_false.mpr (.inr hvddio)])
      · refine .inr ?_
        rw [mayRelease, decide_eq_false (Nat.not_le.mpr hshort), Bool.and_false]
    simp only [exec, execHardResetRelease, hnot, Bool.false_eq_true, if_false]

end Sys2Proof.Machine

/-! O6, O7: the judgement of a frame (R68, R70), and the frames as sent. -/

namespace Sys2Proof.Machine

/-! ### The judgement -/

/-- R68: the judgement of a closed frame with a kind byte and its two check bytes. -/
theorem judge_of_append (port : Port) (kind hi lo : Byte) (body : List Byte) : judge port (kind :: body ++ [hi, lo]) =
    if frameCheck (kind :: body) ≠ halfOf hi lo then .checkError
    else match parseBody port (halfOf hi lo) (kind :: body) with
      | some f => .accepted f
      | none => .malformed := by
  have hlength : (kind :: body ++ [hi, lo]).length = (kind :: body).length + 2 := by simp
  have hshort : ¬ (kind :: body ++ [hi, lo]).length < 3 := by rw [hlength]; simp
  unfold judge
  rw [if_neg hshort, hlength, Nat.add_sub_cancel, List.take_left, List.drop_left] <;> rfl

/-- R68, R70: the kinds that are legal at a port, each with its own structure. -/
theorem parseBody_isSome (port : Port) (check : Half) (kind : Byte) (body : List Byte) :
    (parseBody port check (kind :: body)).isSome = true ↔
      (port = .u ∧ kind = 0x01 ∧ (parseSample check (kind :: body)).isSome = true) ∨
      (port = .u ∧ kind = 0x03 ∧ (parseResponse check (kind :: body)).isSome = true) ∨
      (port = .u ∧ kind = 0x04 ∧ (parseNotice check (kind :: body)).isSome = true) ∨
      (port = .d ∧ kind = 0x02 ∧ (parseRequest check (kind :: body)).isSome = true) ∨
      (port = .d ∧ kind = 0x05 ∧ (parseEnum check (kind :: body)).isSome = true) ∨
      (port = .d ∧ kind = 0x06 ∧ (parseHold check (kind :: body)).isSome = true) ∨
      (port = .d ∧ kind = 0x07 ∧ (parseRelease check (kind :: body)).isSome = true) := by
  unfold parseBody
  split
  case h_8 hu1 hu3 hu4 hd2 hd5 hd6 hd7 =>
    simp only [List.head?_cons, Option.some.injEq] at hu1 hu3 hu4 hd2 hd5 hd6 hd7
    refine ⟨nofun, ?_⟩
    rintro (⟨hp, hk, -⟩ | ⟨hp, hk, -⟩ | ⟨hp, hk, -⟩ | ⟨hp, hk, -⟩ | ⟨hp, hk, -⟩ | ⟨hp, hk, -⟩ | ⟨hp, hk, -⟩)
    exacts [(hu1 hp hk).elim, (hu3 hp hk).elim, (hu4 hp hk).elim, (hd2 hp hk).elim, (hd5 hp hk).elim, (hd6 hp hk).elim,
      (hd7 hp hk).elim]
  all_goals
    rename_i hkind
    cases hkind
    simp

theorem parseSample_isSome (check : Half) (kind : Byte) (body : List Byte) : (parseSample check (kind :: body)).isSome = true ↔
    ∃ (group sequence flags count : Byte) (samples : List Byte),
      body = group :: sequence :: flags :: count :: samples ∧ group.toNat ≤ 15 ∧ 1 ≤ count.toNat ∧ count.toNat ≤ 16 ∧
        samples.length = 2 * count.toNat := by
  unfold parseSample
  split
  next heq =>
    refine ⟨fun h => ?_, ?_⟩
    · split at h
      next hfield =>
        cases heq
        exact ⟨_, _, _, _, _, rfl, Nat.le_of_lt_succ hfield, Option.isSome_ite.mp h⟩
      next => cases h
    · rintro ⟨_, _, _, _, _, rfl, hfield, hrest⟩
      cases heq
      rw [dif_pos (Nat.lt_succ_of_le hfield), if_pos hrest]
      rfl
  next hnone =>
    refine ⟨nofun, ?_⟩
    rintro ⟨_, _, _, _, _, rfl, -⟩
    exact absurd rfl (hnone _ _ _ _ _ _)

theorem parseResponse_isSome (check : Half) (kind : Byte) (body : List Byte) :
    (parseResponse check (kind :: body)).isSome = true ↔ ∃ (source tag code result n : Byte) (data : List Byte),
      body = source :: tag :: code :: result :: n :: data ∧ n.toNat ≤ 64 ∧ data.length = n.toNat := by
  unfold parseResponse
  split
  next heq =>
    cases heq
    simp only [Option.isSome_ite, List.cons.injEq, and_assoc]
    grind
  next hnone =>
    refine ⟨nofun, ?_⟩
    rintro ⟨_, _, _, _, _, _, rfl, -⟩
    exact absurd rfl (hnone _ _ _ _ _ _ _)

theorem parseNotice_isSome (check : Half) (kind : Byte) (body : List Byte) :
    (parseNotice check (kind :: body)).isSome = true ↔ ∃ (source tag code n : Byte) (data : List Byte),
      body = source :: tag :: code :: n :: data ∧ n.toNat ≤ 16 ∧ data.length = n.toNat := by
  unfold parseNotice
  split
  next heq =>
    cases heq
    simp only [Option.isSome_ite, List.cons.injEq, and_assoc]
    grind
  next hnone =>
    refine ⟨nofun, ?_⟩
    rintro ⟨_, _, _, _, _, rfl, -⟩
    exact absurd rfl (hnone _ _ _ _ _ _)

theorem parseRequest_isSome (check : Half) (kind : Byte) (body : List Byte) :
    (parseRequest check (kind :: body)).isSome = true ↔ ∃ (target tag code n : Byte) (params : List Byte),
      body = target :: tag :: code :: n :: params ∧ target.toNat ≤ 31 ∧ n.toNat ≤ 64 ∧ params.length = n.toNat := by
  unfold parseRequest
  split
  next heq =>
    refine ⟨fun h => ?_, ?_⟩
    · split at h
      next hfield =>
        cases heq
        exact ⟨_, _, _, _, _, rfl, Nat.le_of_lt_succ hfield, Option.isSome_ite.mp h⟩
      next => cases h
    · rintro ⟨_, _, _, _, _, rfl, hfield, hrest⟩
      cases heq
      rw [dif_pos (Nat.lt_succ_of_le hfield), if_pos hrest]
      rfl
  next hnone =>
    refine ⟨nofun, ?_⟩
    rintro ⟨_, _, _, _, _, rfl, -⟩
    exact absurd rfl (hnone _ _ _ _ _ _)

theorem parseEnum_isSome (check : Half) (kind : Byte) (body : List Byte) :
    (parseEnum check (kind :: body)).isSome = true ↔
      ∃ next tag : Byte, body = [next, tag] ∧ 1 ≤ next.toNat ∧ next.toNat ≤ 31 := by
  unfold parseEnum
  split
  next heq =>
    cases heq
    simp only [List.cons.injEq, and_true, and_assoc]
    grind
  next hnone =>
    refine ⟨nofun, ?_⟩
    rintro ⟨_, _, rfl, -⟩
    exact absurd rfl (hnone _ _ _)

theorem parseHold_isSome (check : Half) (kind : Byte) (body : List Byte) :
    (parseHold check (kind :: body)).isSome = true ↔ ∃ duration : Byte, body = [duration] ∧ 1 ≤ duration.toNat := by
  unfold parseHold
  split
  next _ duration heq =>
    cases heq
    have hzero : duration = 0 ↔ ¬ 1 ≤ duration.toNat := by
      rw [← BitVec.toNat_inj]
      simp
    rw [if_congr hzero rfl rfl]
    by_cases hd : 1 ≤ duration.toNat <;> simp [hd]
  next hnone =>
    refine ⟨nofun, ?_⟩
    rintro ⟨_, rfl, -⟩
    exact absurd rfl (hnone _ _)

theorem parseRelease_isSome (check : Half) (kind : Byte) (body : List Byte) :
    (parseRelease check (kind :: body)).isSome = true ↔ body = [] := by
  unfold parseRelease
  split
  next heq => cases heq; simp
  next hnone =>
    refine ⟨nofun, ?_⟩
    rintro rfl
    exact absurd rfl (hnone _)

/-- Settles O6: the steps of the judgement, and the structure of each kind. -/
theorem frameJudgementInOrder : Obligations.FrameJudgementInOrder := by
  intro port bytes body kind hi lo
  have hmalformed (hcheck : frameCheck (kind :: body) = halfOf hi lo)
      (hparse : ¬ (parseBody port (halfOf hi lo) (kind :: body)).isSome = true) :
      judge port (kind :: body ++ [hi, lo]) = .malformed := by
    rw [judge_of_append, if_neg (not_not.mpr hcheck), Option.not_isSome_iff_eq_none.mp hparse]
  refine ⟨fun symbol hsymbol => ?_, fun symbol => ?_, fun hshort => ?_, fun hcheck => ?_, fun hcheck hkind => ?_, fun hcheck => ?_⟩
  · cases symbol
    case close => exact absurd rfl hsymbol
    all_goals rfl
  · cases symbol <;> rfl
  · exact if_pos hshort
  · rw [judge_of_append, if_pos hcheck]
  · refine hmalformed hcheck fun hparse => ?_
    rw [parseBody_isSome] at hparse
    grind
  · simp only [← parseSample_isSome (halfOf hi lo) kind, ← parseResponse_isSome (halfOf hi lo) kind,
      ← parseNotice_isSome (halfOf hi lo) kind, ← parseRequest_isSome (halfOf hi lo) kind,
      ← parseEnum_isSome (halfOf hi lo) kind, ← parseHold_isSome (halfOf hi lo) kind, ← parseRelease_isSome (halfOf hi lo) kind,
      ← parseBody_isSome]
    refine ⟨hmalformed hcheck, fun hparse => ?_⟩
    obtain ⟨f, hf⟩ := Option.isSome_iff_exists.mp hparse
    exact ⟨f, by rw [judge_of_append, if_neg (not_not.mpr hcheck), hf]⟩

/-! ### Frames as sent (R73 to R77) -/

theorem halfOf_halfBytes (c : Half) : halfOf (c.extractLsb' 8 8) (c.extractLsb' 0 8) = c := by
  refine BitVec.eq_of_getLsbD_eq fun i hi => ?_
  have happend : (halfOf (c.extractLsb' 8 8) (c.extractLsb' 0 8)).getLsbD i =
      if i < 8 then (c.extractLsb' 0 8).getLsbD i else (c.extractLsb' 8 8).getLsbD (i - 8) := BitVec.getLsbD_append
  rw [happend]
  split
  next hlow => simp [hlow]
  next hhigh =>
    have h8 : 8 + (i - 8) = i := by omega
    have hlt : i - 8 < 8 := by omega
    simp [hlt, h8]

theorem halvesOf_flatMap_halfBytes (hs : List Half) : halvesOf (hs.flatMap halfBytes) = hs := by
  induction hs with
  | nil => rfl
  | cons c rest ih =>
    show halfOf (c.extractLsb' 8 8) (c.extractLsb' 0 8) :: halvesOf (rest.flatMap halfBytes) = c :: rest
    rw [halfOf_halfBytes, ih]

theorem toNat_byteOf {n : Nat} (h : n < 256) : (byteOf n).toNat = n := by
  rw [byteOf, BitVec.toNat_ofNat, Nat.mod_eq_of_lt h]

/-- R70, R73 to R77: a legal frame is read from its own bytes. -/
theorem parseBody_body {port : Port} {f : Frame} (h : f.legalAt port = true) : parseBody port f.check f.body = some f := by
  unfold Frame.legalAt at h
  split at h <;> simp only [Bool.and_eq_true, beq_iff_eq, bne_iff_ne, decide_eq_true_eq] at h
  next f =>
    obtain ⟨rfl, hcount⟩ := h
    have hgroup : (byteOf f.group).toNat = f.group := toNat_byteOf (by omega)
    have hlength : (byteOf f.samples.length).toNat = f.samples.length := toNat_byteOf (by omega)
    have hbytes := length_flatMap_halfBytes f.samples
    rw [List.length_flatMap] at hbytes
    simp [parseBody, parseSample, Frame.body, Frame.check, SampleFrame.body, hgroup, hlength, hcount, hbytes,
      halvesOf_flatMap_halfBytes]
  next f =>
    obtain ⟨rfl, hlength⟩ := h
    simp [parseBody, parseResponse, Frame.body, Frame.check, ResponseFrame.body,
      toNat_byteOf (Nat.lt_of_le_of_lt hlength (by decide)), hlength]
  next f =>
    obtain ⟨rfl, hlength⟩ := h
    simp [parseBody, parseNotice, Frame.body, Frame.check, NoticeFrame.body,
      toNat_byteOf (Nat.lt_of_le_of_lt hlength (by decide)), hlength]
  next f =>
    obtain ⟨rfl, hlength⟩ := h
    have htarget : (byteOf f.target).toNat = f.target := toNat_byteOf (by omega)
    simp [parseBody, parseRequest, Frame.body, Frame.check, RequestFrame.body,
      toNat_byteOf (Nat.lt_of_le_of_lt hlength (by decide)), hlength, htarget]
  next f =>
    obtain ⟨rfl, hnext⟩ := h
    have hbyte : (byteOf f.next).toNat = f.next := toNat_byteOf (by omega)
    simp [parseBody, parseEnum, Frame.body, Frame.check, EnumFrame.body, hbyte, hnext]
  next duration check =>
    obtain ⟨rfl, hduration⟩ := h
    exact congrArg (Option.map Frame.link) (if_neg hduration)
  next check =>
    subst h
    rfl

theorem length_halvesOf {n : Nat} {bytes : List Byte} (h : bytes.length = 2 * n) : (halvesOf bytes).length = n := by
  have hlength := length_flatMap_halfBytes (halvesOf bytes)
  rw [flatMap_halfBytes_halvesOf n bytes h] at hlength
  omega

theorem count_of_parseSample {check : Half} {body : List Byte} {f : SampleFrame} (h : parseSample check body = some f) :
    1 ≤ f.samples.length ∧ f.samples.length ≤ 16 := by
  unfold parseSample at h
  split at h
  · simp only [Option.dite_none_right_eq_some, Option.ite_none_right_eq_some] at h
    obtain ⟨_, ⟨hlow, hhigh, hlen⟩, ⟨⟩⟩ := h
    rw [length_halvesOf hlen]
    exact ⟨hlow, hhigh⟩
  · cases h

theorem length_of_parseResponse {check : Half} {body : List Byte} {f : ResponseFrame} (h : parseResponse check body = some f) :
    f.data.length ≤ 64 := by
  unfold parseResponse at h
  split at h
  · obtain ⟨⟨hlow, hlen⟩, ⟨⟩⟩ := Option.ite_none_right_eq_some.mp h
    exact hlen ▸ hlow
  · cases h

theorem length_of_parseNotice {check : Half} {body : List Byte} {f : NoticeFrame} (h : parseNotice check body = some f) :
    f.data.length ≤ 16 := by
  unfold parseNotice at h
  split at h
  · obtain ⟨⟨hlow, hlen⟩, ⟨⟩⟩ := Option.ite_none_right_eq_some.mp h
    exact hlen ▸ hlow
  · cases h

theorem length_of_parseRequest {check : Half} {body : List Byte} {f : RequestFrame} (h : parseRequest check body = some f) :
    f.params.length ≤ 64 := by
  unfold parseRequest at h
  split at h
  · simp only [Option.dite_none_right_eq_some, Option.ite_none_right_eq_some] at h
    obtain ⟨_, ⟨hlow, hlen⟩, ⟨⟩⟩ := h
    exact hlen ▸ hlow
  · cases h

theorem next_of_parseEnum {check : Half} {body : List Byte} {f : EnumFrame} (h : parseEnum check body = some f) : f.next ≠ 0 := by
  unfold parseEnum at h
  split at h
  · simp only [Option.dite_none_right_eq_some, Option.ite_none_left_eq_some] at h
    obtain ⟨_, hnext, ⟨⟩⟩ := h
    exact fun heq => hnext (congrArg Fin.val heq)
  · cases h

/-- R70: what a port reads is in order there. -/
theorem legalAt_of_parseBody {port : Port} {check : Half} {body : List Byte} {f : Frame}
    (h : parseBody port check body = some f) : f.legalAt port = true := by
  unfold parseBody at h
  split at h
  case h_8 => cases h
  all_goals obtain ⟨g, hg, rfl⟩ := Option.map_eq_some_iff.mp h
  case h_1 => simpa [Frame.legalAt] using count_of_parseSample hg
  case h_2 => simpa [Frame.legalAt] using length_of_parseResponse hg
  case h_3 => simpa [Frame.legalAt] using length_of_parseNotice hg
  case h_4 => simpa [Frame.legalAt] using length_of_parseRequest hg
  case h_5 => simpa [Frame.legalAt] using next_of_parseEnum hg
  case h_6 =>
    unfold parseHold at hg
    split at hg
    next _ duration =>
      obtain ⟨hduration, ⟨⟩⟩ := Option.ite_none_left_eq_some.mp hg
      exact bne_iff_ne.mpr hduration
    next => cases hg
  case h_7 =>
    unfold parseRelease at hg
    split at hg <;> cases hg
    rfl

theorem body_eq_cons (f : Frame) : ∃ kind rest, f.body = kind :: rest := by
  rcases f with (_ | _ | _) | (_ | _) | _ | _ <;> exact ⟨_, _, rfl⟩

/-- R68: the judgement of a frame's own bytes. -/
theorem judge_bytes (port : Port) (f : Frame) : judge port f.bytes =
    if frameCheck f.body ≠ f.check then .checkError
    else match parseBody port f.check f.body with
      | some g => .accepted g
      | none => .malformed := by
  obtain ⟨kind, rest, hbody⟩ := body_eq_cons f
  have hjudge := judge_of_append port kind (f.check.extractLsb' 8 8) (f.check.extractLsb' 0 8) rest
  rw [halfOf_halfBytes] at hjudge
  rw [bytes_eq_body_append_check, hbody]
  exact hjudge

theorem length_bytes_le {port : Port} {f : Frame} (h : f.legalAt port = true) : f.bytes.length ≤ 72 := by
  have hbytes : f.bytes.length = f.body.length + 2 := by rw [bytes_eq_body_append_check]; simp [halfBytes]
  rw [hbytes]
  rcases f with (f | f | f) | (f | f) | _ | _ <;>
    simp only [Frame.legalAt, Bool.and_eq_true, decide_eq_true_eq] at h <;>
    simp only [Frame.body, SampleFrame.body, ResponseFrame.body, NoticeFrame.body, RequestFrame.body, EnumFrame.body,
      LinkFrame.body, List.length_append, List.length_cons, List.length_nil, length_flatMap_halfBytes] <;>
    omega

/-- Settles O7: a legal frame is read from its own bytes, and what is accepted is legal with the bytes it came as. -/
theorem framesAreAcceptedAsSent : Obligations.FramesAreAcceptedAsSent := by
  refine ⟨fun port f => ⟨fun h => length_bytes_le h.1, fun bytes => ⟨fun h => ?_, ?_⟩⟩, fun f => ?_⟩
  · have hbytes := bytes_eq_of_judge_accepted h
    refine ⟨?_, hbytes⟩
    rw [← hbytes, judge_bytes] at h
    split at h
    · cases h
    next hcheck =>
      split at h
      next hparse =>
        cases h
        exact ⟨legalAt_of_parseBody hparse, (not_not.mp hcheck).symm⟩
      · cases h
  · rintro ⟨⟨hlegal, hcheck⟩, rfl⟩
    rw [judge_bytes, if_neg (not_not.mpr hcheck.symm), parseBody_body hlegal]
  · rcases f with (_ | _ | _) | (_ | _) | _ | _ <;> rfl

end Sys2Proof.Machine

/-! O5, O9, O10, O20: reception at both ports, and curves outside their x range. -/

namespace Sys2Proof.Machine

/-! ### Evaluation outside the range (R35, R36) -/

theorem lastSegment_eq (p q : Point) (rest : List Point) :
    (p :: q :: rest)[(p :: q :: rest).length - 2]? = some (lastSegment p q rest).1 ∧
      (p :: q :: rest)[(p :: q :: rest).length - 1]? = some (lastSegment p q rest).2 := by
  induction rest generalizing p q with
  | nil => exact ⟨rfl, rfl⟩
  | cons r more ih => exact ih q r

/-- R36: a value out of range is judged by the end policy, over the segment at that end. -/
theorem evalCurve_of_outOfRange {points : List Point} (policy : EndPolicy) {raw : Half} {edge p q : Point}
    (hlen : 2 ≤ points.length) (ho : ordered points = true)
    (h : (points.head? = some edge ∧ raw.toInt < edge.x.toInt ∧ points[0]? = some p ∧ points[1]? = some q) ∨
      (points.getLast? = some edge ∧ edge.x.toInt < raw.toInt ∧ points[points.length - 2]? = some p ∧
        points[points.length - 1]? = some q)) :
    evalCurve points policy raw = outOfRange policy edge p q raw.toInt ∧ p.x.toInt < q.x.toInt := by
  match points, hlen with
  | first :: second :: rest, _ =>
    obtain ⟨hedge, hlow, hp, hq⟩ | ⟨hedge, hhigh, hp, hq⟩ := h
    · cases hedge; cases hp; cases hq
      exact ⟨if_pos hlow, x_lt_of_ordered ho Nat.zero_lt_one rfl rfl⟩
    · obtain ⟨hleft, hright⟩ := lastSegment_eq first second rest
      cases (getLast?_eq_lastSegment first second rest).symm.trans hedge
      cases hleft.symm.trans hp
      cases hright.symm.trans hq
      have hfirst : first.x.toInt ≤ (lastSegment first second rest).2.x.toInt := x_le_of_ordered ho (Nat.zero_le _) rfl hright
      have hnot : ¬ raw.toInt < first.x.toInt := by omega
      refine ⟨?_, x_lt_of_ordered ho (by simp) hleft hright⟩
      simp only [evalCurve, if_neg hnot, if_pos hhigh]

/-- R35: a sum is clipped to the bound it passes, and SAT says so. -/
theorem saturate_spec (v : Int) :
    (v < -32768 → (saturate v).1.toInt = -32768 ∧ (saturate v).2 = true) ∧
      (32767 < v → (saturate v).1.toInt = 32767 ∧ (saturate v).2 = true) ∧
      (-32768 ≤ v → v ≤ 32767 → (saturate v).1.toInt = v ∧ (saturate v).2 = false) := by
  refine ⟨fun h => ?_, fun h => ?_, fun hlow hhigh => ?_⟩
  · rw [saturate, if_pos h]
    exact ⟨rfl, rfl⟩
  · rw [saturate, if_neg (by omega), if_pos h]
    exact ⟨rfl, rfl⟩
  · rw [saturate, if_neg (by omega), if_neg (by omega)]
    exact ⟨BitVec.toInt_ofInt_eq_self (by decide) hlow (by omega), rfl⟩

/-- Settles O20: the end policy over the segment at that end, and EXTEND by the rounded quotient. -/
theorem curveAppliesEndPolicy : Obligations.CurveAppliesEndPolicy := by
  intro points raw edge p q hlen ho hside
  have heval (policy : EndPolicy) := (evalCurve_of_outOfRange policy hlen ho hside).1
  have hpq : p.x.toInt < q.x.toInt := (evalCurve_of_outOfRange .clamp hlen ho hside).2
  refine ⟨heval .clamp, heval .mark,
    roundQuotient ((q.y.toInt - p.y.toInt) * (raw.toInt - p.x.toInt)) (q.x.toInt - p.x.toInt), ?_⟩
  obtain ⟨hnear, htieUp, htieDown⟩ :=
    roundQuotient_nearest ((q.y.toInt - p.y.toInt) * (raw.toInt - p.x.toInt)) (sub_pos.mpr hpq)
  obtain ⟨hunder, hover, hinside⟩ := saturate_spec (lineAt p q raw.toInt)
  dsimp only
  rw [heval .extend]
  exact ⟨hnear, htieUp, htieDown, rfl, hunder, hover, hinside⟩

/-! ### Reception (R67, R71) -/

/-- Settles O5: by the state of the receiver. -/
theorem receiversAssembleAndDrop : Obligations.ReceiversAssembleAndDrop := by
  refine ⟨fun s port hrun => ?_, fun s hrun => ?_⟩
  · refine ⟨fun hidle => ?_, fun hopen => ?_, fun byte hidle => ?_, fun byte bytes hopen hroom => ?_,
      fun byte bytes hopen hfull => ?_, fun byte hover => ?_⟩
    · exact (unlessHeld_of_running _ hrun).trans (by rw [hidle])
    · refine (unlessHeld_of_running _ hrun).trans ?_
      cases hrx : rxOf s port with
      | idle => exact absurd hrx hopen
      | assembling bytes => rfl
      | oversize => rfl
    · exact (unlessHeld_of_running _ hrun).trans (by rw [hidle])
    · refine (unlessHeld_of_running _ hrun).trans ?_
      rw [hopen]
      exact congrArg _ (if_pos hroom)
    · refine (unlessHeld_of_running _ hrun).trans ?_
      rw [hopen]
      exact congrArg _ (if_neg (Nat.not_lt.mpr hfull))
    · exact (unlessHeld_of_running _ hrun).trans (by rw [hover])
  · have hafter (symbol : EndSymbol) : afterEnd symbol = if symbol = .start then .assembling [] else .idle := by
      cases symbol <;> rfl
    refine ⟨fun bytes hrx hjudge => ?_, fun bytes hrx hjudge => ?_, fun symbol houtcome => ?_, fun symbol houtcome => ?_⟩
    · have houtcome : outcome .u (rxOf s .u) .close = some .checkError := by
        show outcome .u s.uRx .close = _
        rw [hrx, ← hjudge]
        rfl
      exact (unlessHeld_of_running _ hrun).trans (congrArg _ (if_pos houtcome))
    · have houtcome : outcome .d (rxOf s .d) .close = some .checkError := by
        show outcome .d s.dRx .close = _
        rw [hrx, ← hjudge]
        rfl
      exact (unlessHeld_of_running _ hrun).trans (congrArg _ (if_pos houtcome))
    · rw [← hafter]
      exact (unlessHeld_of_running _ hrun).trans (congrArg _ (if_pos houtcome))
    · rw [← hafter]
      exact (unlessHeld_of_running _ hrun).trans (congrArg _ (if_pos houtcome))

/-! ### Accepted frames (R87, R88, R110 to R113) -/

/-- R101: the entry that makes the occupancy 6 while QUIET asserts the upstream hold. -/
theorem flowAfterEntry_eq (f : FlowControl) (n : Nat) : flowAfterEntry f (n + 1) =
    if n = 5 ∧ f.upstream = .quiet then
      { f with
        upstream := .asserted
        refresh := some (if f.setting = 1 then 1 else f.setting.toNat / 2)
        slot := some (.hold f.setting (frameCheck [0x06, f.setting])) }
    else f := by
  unfold flowAfterEntry placeHold
  refine if_congr ?_ ?_ rfl
  · simp
  · rfl

theorem exec_forwardFrameAccepted {s : State} {bytes : List Byte} {f : ForwardFrame} (hrun : s.held = false)
    (hrx : s.uRx = .assembling bytes) (hjudge : judge .u bytes = .accepted (.forward f)) :
    exec .forwardFrameAccepted s = .next (offerIngress f { s with uRx := .idle }) := by
  refine (unlessHeld_of_running _ hrun).trans ?_
  rw [outcome_close hrx hjudge]

/-- Settles O9: the frame by the free places, the drop by the state of OVERRUN. -/
theorem forwardFrameIsOfferedToIngress : Obligations.ForwardFrameIsOfferedToIngress := by
  refine ⟨fun s bytes f hrun hrx hjudge hroom => ?_, fun s bytes f hrun hrx hjudge hfull => ?_⟩
  · rw [exec_forwardFrameAccepted hrun hrx hjudge, ← flowAfterEntry_eq]
    exact congrArg _ (if_pos hroom)
  · have hdropped : exec .forwardFrameAccepted s = .next (reportOverrun { s with
        uRx := .idle, counters := { s.counters with uOverrun := s.counters.uOverrun + 1 } }) := by
      rw [exec_forwardFrameAccepted hrun hrx hjudge]
      exact congrArg _ (if_neg (by simp [hfull]))
    dsimp only
    refine ⟨fun hoff => ?_, fun hon hstate => ?_, fun hon hstate => ?_, fun hon hstate hlocal => ?_, fun hon hstate hroomy => ?_⟩ <;>
      rw [hdropped]
    · have hdisabled : s.notices.enabled .overrun = false := hoff
      simp only [reportOverrun, hdisabled, Bool.false_eq_true, if_false]
    · have henabled : s.notices.enabled .overrun = true := hon
      simp only [reportOverrun, henabled, if_true, hstate]
    · have henabled : s.notices.enabled .overrun = true := hon
      simp only [reportOverrun, henabled, if_true, hstate]
    · have henabled : s.notices.enabled .overrun = true := hon
      simp only [reportOverrun, henabled, if_true, hstate]
      exact congrArg _ (offerNotice_of_full (Nat.le_of_eq hlocal.symm))
    · exact congrArg _ (reportOverrun_of_roomy hon hstate hroomy)

theorem offerRequest_eq (f : ReverseFrame) (s : State) : offerRequest f s = { s with
    requestQ := if s.requestQ.length < 4 then s.requestQ ++ [f] else s.requestQ
    counters := { s.counters with
      reqDropped := if s.requestQ.length < 4 then s.counters.reqDropped else s.counters.reqDropped + 1 } } := by
  unfold offerRequest
  by_cases h : s.requestQ.length < 4 <;> simp [h]

theorem offerReverse_eq (f : ReverseFrame) (s : State) : offerReverse f s = { s with
    reverseQ := if s.reverseQ.length < 8 then s.reverseQ ++ [f] else s.reverseQ
    counters := { s.counters with
      rOverrun := if s.reverseQ.length < 8 then s.counters.rOverrun else s.counters.rOverrun + 1 } } := by
  unfold offerReverse reverseRoom
  by_cases h : s.reverseQ.length < 8 <;> simp [h]

theorem takesTarget_iff (address : Fin 31) (target : Fin 32) :
    takesTarget address target = true ↔ target.val = 0 ∨ target.val = 31 ∨ target.val = address.val := by
  simp [takesTarget, or_assoc]

theorem forwardsTarget_iff (address : Fin 31) (target : Fin 32) :
    forwardsTarget address target = true ↔ target.val = 31 ∨ (target.val ≠ 0 ∧ target.val ≠ address.val) := by
  simp [forwardsTarget]

/-- Settles O10: each queue judges its offer alone. -/
theorem reverseFramesAreRouted : Obligations.ReverseFramesAreRouted := by
  refine ⟨fun s bytes f hrun hrx hjudge => ?_, fun s bytes f hrun hrx hjudge => ?_⟩
  · refine (unlessHeld_of_running _ hrun).trans (congrArg _ ?_)
    rw [outcome_close hrx hjudge]
    simp only [takesTarget_iff, forwardsTarget_iff, offerRequest_eq, offerReverse_eq]
    by_cases htaken : f.target.val = 0 ∨ f.target.val = 31 ∨ f.target.val = s.address.val
    · by_cases hforwarded : f.target.val = 31 ∨ (f.target.val ≠ 0 ∧ f.target.val ≠ s.address.val)
      · simp only [ite_and, ite_not, if_pos htaken, if_pos hforwarded, acceptReverse]
        rfl
      · simp only [ite_and, ite_not, if_pos htaken, if_neg hforwarded, acceptReverse]
        rfl
    · by_cases hforwarded : f.target.val = 31 ∨ (f.target.val ≠ 0 ∧ f.target.val ≠ s.address.val)
      · simp only [ite_and, ite_not, if_neg htaken, if_pos hforwarded, acceptReverse]
      · simp only [ite_and, ite_not, if_neg htaken, if_neg hforwarded, acceptReverse]
  · refine ⟨fun haddress => ?_, fun haddress => ?_⟩
    · refine (unlessHeld_of_running _ hrun).trans (congrArg _ ?_)
      rw [outcome_close hrx hjudge]
      dsimp only
      rw [if_neg haddress, offerReverse_eq]
      rfl
    · refine (unlessHeld_of_running _ hrun).trans (congrArg _ ?_)
      rw [outcome_close hrx hjudge]
      dsimp only
      rw [if_pos haddress, offerRequest_eq]
      rfl

end Sys2Proof.Machine

/-! O13 to O17: the forward path from intake to the forward egress queue. -/

namespace Sys2Proof.Machine

/-! ### The frame boundaries (R58, R59) -/

theorem betweenFrames_of_later {s : State} (h : s.shadow = .armed → ∀ r, s.commit = some r → r.mode ≠ .now) :
    betweenFrames s = s := by
  unfold betweenFrames
  split
  next harmed hcommit => exact absurd rfl (h harmed _ hcommit)
  next => rfl

theorem betweenFrames_of_now {s : State} {r : CommitRecord} (harmed : s.shadow = .armed) (hcommit : s.commit = some r)
    (hmode : r.mode = .now) : betweenFrames s = swap s := by
  obtain ⟨origin, tag, mode, timeout, timer⟩ := r
  cases hmode
  simp only [betweenFrames, harmed, hcommit]

theorem swapIfTarget_of_other {f : SampleFrame} {s : State} (h : atTarget f s = false) : swapIfTarget f s = s := by
  unfold swapIfTarget
  split
  next harmed hcommit =>
    refine if_neg ?_
    rintro ⟨hgroup, hsequence⟩
    simp [atTarget, harmed, hcommit, hgroup, hsequence] at h
  next => rfl

theorem swapIfTarget_of_target {f : SampleFrame} {s : State} (h : atTarget f s = true) : swapIfTarget f s = swap s := by
  unfold atTarget at h
  split at h
  next harmed hcommit =>
    rw [Bool.and_eq_true, beq_iff_eq, beq_iff_eq] at h
    simp only [swapIfTarget, harmed, hcommit]
    exact if_pos h
  next => cases h

theorem atTarget_removeIngressHead (f : SampleFrame) (rest : List ForwardFrame) (s : State) :
    atTarget f (removeIngressHead rest s) = atTarget f s := rfl

/-! ### Intake (R21 to R26, R90) -/

theorem passUnchanged_of_room {f : ForwardFrame} {s : State} (h : s.egress.length < 8) :
    passUnchanged f s = { s with egress := s.egress ++ [f] } := if_pos (decide_eq_true h)

theorem passUnchanged_of_full {f : ForwardFrame} {s : State} (h : 8 ≤ s.egress.length) :
    passUnchanged f s = { s with intake := .waiting f } :=
  if_neg (Bool.eq_false_iff.mp (decide_eq_false (Nat.not_lt.mpr h)))

theorem exec_intakeSampleFrame {s : State} {f : SampleFrame} {rest : List ForwardFrame} (hrun : s.held = false)
    (hfree : s.intake = .free) (hhead : s.ingress = .sample f :: rest) : exec .intakeSampleFrame s = .next
      (match s.mode with
      | .booting => passUnchanged (.sample f) (removeIngressHead rest s)
      | .running => judgeByMode f (swapIfTarget f (removeIngressHead rest s))) := by
  refine (unlessHeld_of_running _ hrun).trans ?_
  rw [hfree, hhead] <;> rfl

/-- The command that takes a forward frame at intake. -/
def intakeCommand : ForwardFrame → Instr
  | .sample _ => .intakeSampleFrame
  | .response _ | .notice _ => .intakePassingFrame

/-- R22, R24, R90: a passing frame goes on unchanged. -/
theorem exec_passingFrame {s : State} {f : ForwardFrame} {rest : List ForwardFrame} (hrun : s.held = false)
    (hfree : s.intake = .free) (hhead : s.ingress = f :: rest)
    (hpass : ∀ g, f = .sample g → s.mode = .booting ∨ (atTarget g s = false ∧ modeOf (activeBank s) g.group = .bypass)) :
    exec (intakeCommand f) s = .next (passUnchanged f (removeIngressHead rest s)) := by
  cases f with
  | response f =>
    refine (unlessHeld_of_running _ hrun).trans ?_
    rw [hfree, hhead]
  | notice f =>
    refine (unlessHeld_of_running _ hrun).trans ?_
    rw [hfree, hhead]
  | sample f =>
    rw [intakeCommand, exec_intakeSampleFrame hrun hfree hhead]
    obtain hboot | ⟨hother, hbypass⟩ := hpass f rfl
    · rw [hboot]
    · cases hmode : s.mode with
      | booting => rfl
      | running =>
        have hbypass' : modeOf (activeBank (removeIngressHead rest s)) f.group = .bypass := hbypass
        dsimp only
        rw [swapIfTarget_of_other (s := removeIngressHead rest s) hother, judgeByMode, hbypass']

/-- Settles O13: by the kind of the frame and the mode of its group. -/
theorem intakeActsByGroupMode : Obligations.IntakeActsByGroupMode := by
  refine ⟨fun s rest hrun => ⟨fun f hfree hhead hpass => ?_, fun f hwaiting hroom => ?_, fun f hwaiting hfull => ?_⟩,
    fun s f rest hrun hfree hhead hmode hother => ?_⟩
  · have hexec := exec_passingFrame hrun hfree hhead hpass
    refine ⟨fun hroom => Eq.trans ?_ (hexec.trans ?_), fun hfull => Eq.trans ?_ (hexec.trans ?_)⟩
    · cases f <;> rfl
    · rw [passUnchanged_of_room (s := removeIngressHead rest s) hroom]
      rfl
    · cases f <;> rfl
    · rw [passUnchanged_of_full (s := removeIngressHead rest s) hfull]
      rfl
  · refine (unlessHeld_of_running _ hrun).trans ?_
    rw [hwaiting]
    exact congrArg _ (if_pos (decide_eq_true hroom))
  · refine (unlessHeld_of_running _ hrun).trans ?_
    rw [hwaiting]
    exact congrArg _ (if_neg (Bool.eq_false_iff.mp (decide_eq_false (Nat.not_lt.mpr hfull))))
  · have hexec : exec .intakeSampleFrame s = .next (judgeByMode f (removeIngressHead rest s)) := by
      rw [exec_intakeSampleFrame hrun hfree hhead, hmode]
      dsimp only
      rw [swapIfTarget_of_other (s := removeIngressHead rest s) hother]
    rw [hexec]
    refine ⟨fun hblock => ?_, fun hprocess => ?_⟩
    · have hblock' : modeOf (activeBank (removeIngressHead rest s)) f.group = .block := hblock
      rw [judgeByMode, hblock']
      rfl
    · have hprocess' : modeOf (activeBank (removeIngressHead rest s)) f.group = .process := hprocess
      rw [judgeByMode, hprocess']
      rfl

/-- Settles O14: the swap comes first, and the frame is judged in the new ACTIVE bank. -/
theorem targetFrameSwapsBeforeItIsHandled : Obligations.TargetFrameSwapsBeforeItIsHandled := by
  intro s f rest r tag hrun hfree hhead hmode htarget hcommit horigin htag swapped
  have hexec : exec .intakeSampleFrame s = .next (judgeByMode f swapped) := by
    rw [exec_intakeSampleFrame hrun hfree hhead, hmode]
    dsimp only
    rw [swapIfTarget_of_target (s := removeIngressHead rest s) htarget,
      swap_of_request (s := removeIngressHead rest s) hcommit horigin htag]
    rfl
  have hegress : swapped.egress = s.egress := raiseCompletion_egress _ _ _
  have hcounters : swapped.counters = s.counters := raiseCompletion_counters _ _ _
  have hactive : swapped.active = s.active.other := raiseCompletion_active _ _ _
  have hbank : activeBank swapped = shadowBank s := by
    have hkept := (raiseCompletion_step tag (.commitSwapped s.active.other)
      (afterSwap { s with ingress := rest, flow := flowAfterRemoval s.flow rest.length })).control
    exact (ActiveKept.of_places hkept).2
  rw [hexec]
  unfold judgeByMode
  rw [hbank]
  refine ⟨fun hbypass => ?_, fun hblock => ?_, fun hprocess => ?_⟩
  · rw [hbypass]
    refine ⟨fun hroom => ?_, fun hfull => ?_⟩
    · rw [passUnchanged_of_room (by rwa [hegress]), hegress]
    · rw [passUnchanged_of_full (by rwa [hegress])]
  · rw [hblock, hcounters]
  · rw [hprocess, hactive]

end Sys2Proof.Machine

/-! O15 to O17: correction, duplicates and stalled outputs. -/

namespace Sys2Proof.Machine

/-! ### The judgement of a sequence number (R28 to R30) -/

theorem judgeSequence_of_inOrder {t : Tracker} {sequence : Byte} (h : t = .unsynced ∨ ∃ last, t = .synced last ∧ sequence = last + 1) :
    judgeSequence t sequence = .synchronising ∨ judgeSequence t sequence = .inOrder := by
  obtain rfl | ⟨last, rfl, rfl⟩ := h
  · exact .inl rfl
  · have hnext : last + 1 - last = 1#8 := by grind
    exact .inr (by rw [judgeSequence, hnext]; rfl)

theorem judgeSequence_of_gap {last sequence : Byte} (h : 2 ≤ (sequence - last).toNat) :
    judgeSequence (.synced last) sequence = .gap ((sequence - last).toNat - 1) := by
  dsimp only [judgeSequence]
  rw [if_neg (by omega), if_neg (by omega)]

theorem judgeSequence_of_repeat (last : Byte) : judgeSequence (.synced last) last = .duplicate := by
  simp [judgeSequence]

/-! ### CORRECTION_DONE -/

theorem exec_correctionDone_of_inOrder {s : State} {f : SampleFrame} {bank : BankName} (hrun : s.held = false)
    (hbound : s.stage = .bound f bank)
    (htracker : s.trackers[f.group] = .unsynced ∨ ∃ last, s.trackers[f.group] = .synced last ∧ f.sequence = last + 1) :
    exec .correctionDone s = .next (correctFrame f bank false (acceptSequence f 0 s)) := by
  refine (unlessHeld_of_running _ hrun).trans (congrArg _ ?_)
  rw [hbound]
  dsimp only
  obtain h | h := judgeSequence_of_inOrder htracker <;> rw [h]

theorem exec_correctionDone_of_gap {s : State} {f : SampleFrame} {bank : BankName} {last : Byte} (hrun : s.held = false)
    (hbound : s.stage = .bound f bank) (htracker : s.trackers[f.group] = .synced last) (hgap : 2 ≤ (f.sequence - last).toNat) :
    exec .correctionDone s = .next (correctFrame f bank true (acceptSequence f ((f.sequence - last).toNat - 1) s)) := by
  refine (unlessHeld_of_running _ hrun).trans (congrArg _ ?_)
  rw [hbound]
  dsimp only
  rw [htracker, judgeSequence_of_gap hgap]

theorem exec_correctionDone_of_repeat {s : State} {f : SampleFrame} {bank : BankName} (hrun : s.held = false)
    (hbound : s.stage = .bound f bank) (htracker : s.trackers[f.group] = .synced f.sequence) :
    exec .correctionDone s = .next (discardDuplicate f s) := by
  refine (unlessHeld_of_running _ hrun).trans (congrArg _ ?_)
  rw [hbound]
  dsimp only
  rw [htracker, judgeSequence_of_repeat]

/-! ### The frame boundary after a delivery (R40, R58) -/

theorem deliver_of_full {out : SampleFrame} {bank : BankName} {s : State} (h : 8 ≤ s.egress.length) :
    deliver out bank s = { s with stage := .stalled out bank } :=
  if_neg (Bool.eq_false_iff.mp (decide_eq_false (Nat.not_lt.mpr h)))

theorem deliver_of_room {out : SampleFrame} {bank : BankName} {s : State} (h : s.egress.length < 8) :
    deliver out bank s = betweenFrames { s with egress := s.egress ++ [.sample out], stage := .idle, intake := .free } :=
  if_pos (decide_eq_true h)

/-- No commit is to be swapped at a frame boundary. -/
def SwapsLater (s : State) : Prop := s.shadow = .armed → ∀ r, s.commit = some r → r.mode ≠ .now

/-- R28, R29: the tracker takes the sequence, and a gap is counted. -/
def counted (f : SampleFrame) (last : Byte) (s : State) : State := { s with
  trackers := s.trackers.set f.group (.synced f.sequence)
  groupCounts := s.groupCounts.set f.group
    { gap := BitVec.ofNat 16 (min ((s.groupCounts[f.group]).gap.toNat + ((f.sequence - last).toNat - 1)) 65535)
      dup := (s.groupCounts[f.group]).dup } }

theorem acceptSequence_of_gap {f : SampleFrame} {last : Byte} {s : State} (hgap : 2 ≤ (f.sequence - last).toNat) :
    acceptSequence f ((f.sequence - last).toNat - 1) s = reportSequence f.group (counted f last s) :=
  if_neg (by omega)

/-- A notice operation leaves what a delivery reads. -/
theorem bankNamed_of_notice {s t : State} (h : NoticeStep s t) (bank : BankName) : bankNamed t bank = bankNamed s bank := by
  cases bank
  exacts [h.bankA, h.bankB]

/-- R31 to R40: what the stage delivers of a frame that is taken into `s`, whose banks, slot counters and egress are given. -/
theorem correctFrame_of_room {f : SampleFrame} {bank : BankName} {gap : Bool} {s : State} (hroom : s.egress.length < 8) :
    correctFrame f bank gap s = betweenFrames { s with
      slotCounts := countedSlots (bankNamed s bank) f s.slotCounts
      egress := s.egress ++ [.sample (correctedFrame (bankNamed s bank) f gap)], stage := .idle, intake := .free } :=
  deliver_of_room (s := { s with slotCounts := countedSlots (bankNamed s bank) f s.slotCounts }) hroom

theorem correctFrame_of_full {f : SampleFrame} {bank : BankName} {gap : Bool} {s : State} (hfull : 8 ≤ s.egress.length) :
    correctFrame f bank gap s = { s with
      slotCounts := countedSlots (bankNamed s bank) f s.slotCounts
      stage := .stalled (correctedFrame (bankNamed s bank) f gap) bank } :=
  deliver_of_full (s := { s with slotCounts := countedSlots (bankNamed s bank) f s.slotCounts }) hfull

/-- Settles O15: by the distance of the sequence and the free places. -/
theorem frameIsCorrectedAndDelivered : Obligations.FrameIsCorrectedAndDelivered := by
  refine ⟨fun s f bank hrun hbound htracker => ?_, fun s f bank last hrun hbound htracker hgap => ?_⟩
  · have hexec := exec_correctionDone_of_inOrder hrun hbound htracker
    refine ⟨fun hroom hlater => hexec.trans (congrArg _ ?_), fun hfull => hexec.trans (congrArg _ ?_)⟩
    · exact (correctFrame_of_room (s := acceptSequence f 0 s) hroom).trans (betweenFrames_of_later hlater)
    · exact correctFrame_of_full (s := acceptSequence f 0 s) hfull
  · have hexec := exec_correctionDone_of_gap hrun hbound htracker hgap
    rw [acceptSequence_of_gap hgap] at hexec
    have hstep := reportSequence_step f.group (counted f last s)
    have hbank : bankNamed (reportSequence f.group (counted f last s)) bank = bankNamed s bank := bankNamed_of_notice hstep bank
    have hegress : (reportSequence f.group (counted f last s)).egress = s.egress := hstep.egress
    have hslots : (reportSequence f.group (counted f last s)).slotCounts = s.slotCounts := hstep.slotCounts
    refine ⟨fun hroom hlater => hexec.trans (congrArg _ ?_), fun hfull => hexec.trans (congrArg _ ?_)⟩
    · rw [correctFrame_of_room (by rwa [hegress]), hbank, hegress, hslots]
      refine betweenFrames_of_later (s := { reportSequence f.group (counted f last s) with
        slotCounts := _, egress := _, stage := .idle, intake := .free }) ?_
      rw [hstep.shadow, hstep.commit]
      exact hlater
    · rw [correctFrame_of_full (by rwa [hegress]), hbank, hslots]
      rfl

/-! ### Reported groups (R154) -/

theorem one_shiftLeft (g : Fin 16) : 1#16 <<< g.val = BitVec.ofNat 16 (2 ^ g.val) := by
  refine BitVec.eq_of_toNat_eq ?_
  simp [BitVec.toNat_shiftLeft, Nat.shiftLeft_eq]

/-- Settles O16: the duplicate by the tracker, the reported group by the state of SEQUENCE. -/
theorem duplicateIsDiscardedAndReported : Obligations.DuplicateIsDiscardedAndReported := by
  refine ⟨fun s f bank hrun hbound hlater htracker => ?_, fun s g => ?_⟩
  · rw [exec_correctionDone_of_repeat hrun hbound htracker]
    refine congrArg _ (betweenFrames_of_later ?_)
    rw [reportSequence_shadow, reportSequence_commit]
    exact hlater
  · dsimp only
    rw [← one_shiftLeft]
    refine ⟨fun hoff => ?_, fun hon hbusy => ?_, fun hon hidle hfull => ?_, fun hon hidle hroomy => ?_⟩
    · have hdisabled : s.notices.enabled .sequence = false := hoff
      simp only [reportSequence, hdisabled, Bool.false_eq_true, if_false]
    · have henabled : s.notices.enabled .sequence = true := hon
      simp only [reportSequence, henabled, if_true]
      cases hstate : s.notices.sequence with
      | idle => exact absurd hstate hbusy
      | pending => rfl
      | queued => rfl
    · have henabled : s.notices.enabled .sequence = true := hon
      simp only [reportSequence, henabled, if_true, hidle]
      exact offerNotice_of_full hfull
    · exact reportSequence_of_roomy g hon hidle hroomy

/-! ### A commit NOW at a frame boundary (R58, R60) -/

/-- R60: at a frame boundary a commit of origin REQUEST in mode NOW is swapped, and COMMIT_DONE raised. -/
theorem betweenFrames_of_request {s : State} {r : CommitRecord} {tag : Byte} (harmed : s.shadow = .armed)
    (hcommit : s.commit = some r) (hmode : r.mode = .now) (horigin : r.origin = .request) (htag : r.tag = some tag) :
    betweenFrames s = raiseCompletion tag (.commitSwapped s.active.other) (afterSwap s) :=
  (betweenFrames_of_now harmed hcommit hmode).trans (swap_of_request hcommit horigin htag)

/-- Settles O17: a stalled frame by the free places, and the swap at each kind of frame boundary. -/
theorem stalledOutputTakesFreePlace : Obligations.StalledOutputTakesFreePlace := by
  have hplaced {s : State} {out : SampleFrame} {bank : BankName} (hrun : s.held = false) (hstalled : s.stage = .stalled out bank)
      (hroom : s.egress.length < 8) : exec .stalledOutputPlaced s =
        .next (betweenFrames { s with egress := s.egress ++ [.sample out], stage := .idle, intake := .free }) := by
    refine (unlessHeld_of_running _ hrun).trans (congrArg _ ?_)
    rw [hstalled]
    exact (if_pos (decide_eq_true hroom)).trans (deliver_of_room hroom)
  refine ⟨fun s out bank hrun hstalled => ⟨fun hroom hlater => ?_, fun hfull => ?_⟩,
    fun s bank r tag hrun harmed hcommit hmode horigin htag => ?_⟩
  · rw [hplaced hrun hstalled hroom]
    exact congrArg _ (betweenFrames_of_later hlater)
  · refine (unlessHeld_of_running _ hrun).trans (congrArg _ ?_)
    rw [hstalled]
    exact if_neg (Bool.eq_false_iff.mp (decide_eq_false (Nat.not_lt.mpr hfull)))
  · have hswap (u : State) (hshadow : u.shadow = s.shadow) (hcommit' : u.commit = s.commit) (hactive : u.active = s.active) :
        betweenFrames u = raiseCompletion tag (.commitSwapped s.active.other) (afterSwap u) := by
      rw [← hactive]
      exact betweenFrames_of_request (hshadow.trans harmed) (hcommit'.trans hcommit) hmode horigin htag
    refine ⟨fun out hstalled hroom => ?_, fun f hbound hroom htracker => ?_, fun f last hbound hroom htracker hgap => .inl ?_,
      fun f hbound htracker => .inl ?_⟩
    · rw [hplaced hrun hstalled hroom]
      exact congrArg _ (hswap _ rfl rfl rfl)
    · rw [exec_correctionDone_of_inOrder hrun hbound htracker]
      exact congrArg _ ((correctFrame_of_room (s := acceptSequence f 0 s) hroom).trans (hswap _ rfl rfl rfl))
    · rw [exec_correctionDone_of_gap hrun hbound htracker hgap, acceptSequence_of_gap hgap]
      have hstep := reportSequence_step f.group (counted f last s)
      have hbank : bankNamed (reportSequence f.group (counted f last s)) bank = bankNamed s bank := bankNamed_of_notice hstep bank
      have hegress : (reportSequence f.group (counted f last s)).egress = s.egress := hstep.egress
      have hslots : (reportSequence f.group (counted f last s)).slotCounts = s.slotCounts := hstep.slotCounts
      rw [correctFrame_of_room (by rwa [hegress]), hbank, hegress, hslots]
      exact congrArg _ (hswap _ hstep.shadow hstep.commit hstep.active)
    · rw [exec_correctionDone_of_repeat hrun hbound htracker]
      exact congrArg _ (hswap _ (reportSequence_shadow _ _) (reportSequence_commit _ _) (reportSequence_active _ _))

end Sys2Proof.Machine

/-! O18: the output frame and the slot counters. -/

namespace Sys2Proof.Machine

/-! ### The flags (R39) -/

/-- A flag is one bit. -/
theorem getLsbD_twoPow_eight {n : Nat} (hn : n < 8) (i : Nat) : (BitVec.twoPow 8 n).getLsbD i = decide (i = n) := by
  rw [BitVec.getLsbD_twoPow]
  by_cases h : i = n
  · simp [h, hn]
  · simp [h, Ne.symm h]

theorem getLsbD_flagIf (c : Bool) {n : Nat} (hn : n < 8) (i : Nat) :
    (flagIf c (BitVec.twoPow 8 n)).getLsbD i = (c && decide (i = n)) := by
  cases c
  · simp [flagIf]
  · simp only [flagIf, if_true, getLsbD_twoPow_eight hn, Bool.true_and]

/-- R39: bit by bit, what was received and the flags that arose. -/
theorem getLsbD_outputFlags (received : Byte) (gap range sat short : Bool) (i : Nat) :
    (outputFlags received gap range sat short).getLsbD i = (received.getLsbD i || decide (i = 0) || (gap && decide (i = 1)) ||
      (range && decide (i = 2)) || (sat && decide (i = 3)) || (short && decide (i = 4))) := by
  have hflags : outputFlags received gap range sat short =
      received ||| BitVec.twoPow 8 0 ||| flagIf gap (BitVec.twoPow 8 1) ||| flagIf range (BitVec.twoPow 8 2) |||
        flagIf sat (BitVec.twoPow 8 3) ||| flagIf short (BitVec.twoPow 8 4) := rfl
  rw [hflags]
  simp only [BitVec.getLsbD_or]
  rw [getLsbD_twoPow_eight (by decide), getLsbD_flagIf _ (by decide), getLsbD_flagIf _ (by decide), getLsbD_flagIf _ (by decide),
    getLsbD_flagIf _ (by decide)]

/-! ### The slots (R31, R32, R37) -/

theorem slotResult_of_absent {b : Bank} {f : SampleFrame} {e : MapEntry} (h : f.samples.length ≤ e.pos.val) :
    slotResult b f e = { value := 0x8000, range := false, sat := false, short := true } := by
  rw [slotResult, List.getElem?_eq_none h]
  rfl

theorem short_slotResult (b : Bank) (f : SampleFrame) (e : MapEntry) :
    (slotResult b f e).short = true ↔ f.samples.length ≤ e.pos.val := by
  refine ⟨fun h => ?_, fun h => by rw [slotResult_of_absent h]⟩
  by_contra hpresent
  obtain ⟨raw, hraw⟩ : ∃ raw, f.samples[e.pos.val]? = some raw := ⟨_, List.getElem?_eq_getElem (Nat.not_le.mp hpresent)⟩
  rw [slotResult, hraw] at h
  cases haction : e.action <;> simp [haction] at h

theorem anySlot_iff (b : Bank) (f : SampleFrame) (occasion : SlotResult → Bool) :
    anySlot b f occasion = true ↔ ∃ se ∈ groupSlots b f.group, occasion (slotResult b f se.2) = true := List.any_eq_true

/-- R38: the sample at an output position is that of its one slot. -/
theorem outputSample_of_unique {b : Bank} {f : SampleFrame} {q : Nat} {se : Fin 64 × MapEntry} (hse : se ∈ groupSlots b f.group)
    (hout : se.2.out.val = q) (hunique : ∀ te ∈ groupSlots b f.group, te.2.out.val = q → te = se) :
    outputSample b f q = (slotResult b f se.2).value := by
  unfold outputSample
  split
  next te hfind =>
    have hfound : (te.2.out.val == q) = true := List.find?_some (p := fun se : Fin 64 × MapEntry => se.2.out.val == q) hfind
    rw [hunique te (List.mem_of_find?_eq_some hfind) (beq_iff_eq.mp hfound)]
  next hfind => exact absurd (beq_iff_eq.mpr hout) (List.find?_eq_none.mp hfind se hse)

/-- Settles O18: the flags bit by bit, the samples by their slots, the counters slot by slot. -/
theorem outputFrameCarriesSlotValues : Obligations.OutputFrameCarriesSlotValues := by
  refine ⟨fun b f gap => ?_, fun b f e => ?_, fun b f counts s => ?_⟩
  · have hflag (i : Nat) := getLsbD_outputFlags f.flags gap (anySlot b f (·.range)) (anySlot b f (·.sat)) (anySlot b f (·.short)) i
    have hsamples : (outputSamples b f).length = (b.groups[f.group]).emit.val := by simp [outputSamples]
    refine ⟨rfl, rfl, hsamples, check_buildSample _ _ _ _, ?_, ?_, ?_, ?_, ?_, fun i hi => ?_, fun q hq se hse hout hunique => ?_⟩
    · exact (hflag 0).trans (by simp)
    · rw [show (correctedFrame b f gap).flags.getLsbD 1 = _ from hflag 1]
      simp
    · rw [show (correctedFrame b f gap).flags.getLsbD 2 = _ from hflag 2, ← anySlot_iff b f (·.range)]
      simp
    · rw [show (correctedFrame b f gap).flags.getLsbD 3 = _ from hflag 3, ← anySlot_iff b f (·.sat)]
      simp
    · simp only [← short_slotResult b f]
      rw [show (correctedFrame b f gap).flags.getLsbD 4 = _ from hflag 4, ← anySlot_iff b f (·.short)]
      simp
    · refine (hflag i).trans ?_
      have h0 : i ≠ 0 ∧ i ≠ 1 ∧ i ≠ 2 ∧ i ≠ 3 ∧ i ≠ 4 := by omega
      simp [h0]
    · show (outputSamples b f)[q]? = _
      rw [outputSamples, List.getElem?_map, List.getElem?_range hq]
      exact congrArg some (outputSample_of_unique hse hout hunique)
  · refine ⟨slotResult_of_absent, fun raw hraw haction => ?_, fun raw c hraw haction hcurve => ?_⟩
    · simp only [slotResult, hraw, haction]
    · simp only [slotResult, hraw, haction, hcurve]
  · have hslot : (countedSlots b f counts)[s] = countedSlot b f s counts[s] := Vector.getElem_ofFn ..
    refine ⟨fun e hentry hgroup => ?_, fun e hentry hgroup => ?_, fun hempty => ?_⟩ <;> rw [hslot]
    · simp only [countedSlot, hentry, hgroup, if_true, satAdd]
    · simp only [countedSlot, hentry, hgroup, if_false]
    · simp only [countedSlot, hempty]

end Sys2Proof.Machine

/-! O22, O23, O24, O27: the transmitters, the restart and the held frames. -/

namespace Sys2Proof.Machine

/-! ### Port D (R94, R95, R152) -/

theorem exec_dFrameStart {s : State} {source : Source} (hrun : s.held = false) (hready : s.dTx.send = .ready)
    (hfree : s.dTx.hold = .free) (hchoice : arbiterChoice s.dTx.lastServed s.egress s.localQ = some source) :
    exec .dFrameStart s = .next (if source = .forward then startForward s else startLocal s) := by
  refine (unlessHeld_of_running _ hrun).trans (congrArg _ ?_)
  rw [hready, hfree]
  dsimp only
  rw [hchoice]
  cases source <;> rfl

/-- R95: the forward queue, when it holds a frame and the local queue holds none or was served last. -/
theorem arbiterChoice_forward {lastServed : Source} {f : ForwardFrame} {rest : List ForwardFrame} {q : List LocalFrame}
    (h : q = [] ∨ lastServed = .ofLocal) : arbiterChoice lastServed (f :: rest) q = some .forward := by
  cases q with
  | nil => rfl
  | cons g more => rw [h.resolve_left nofun]; rfl

theorem arbiterChoice_local {lastServed : Source} {f : LocalFrame} {rest : List LocalFrame} {q : List ForwardFrame}
    (h : q = [] ∨ lastServed = .forward) : arbiterChoice lastServed q (f :: rest) = some .ofLocal := by
  cases q with
  | nil => rfl
  | cons g more => rw [h.resolve_left nofun]; rfl

theorem frameStarted_of_other {n : NoticeUnit} {f : NoticeFrame} (h : 0x10 ≤ f.code.toNat) : n.frameStarted (.notice f) = n := by
  have hcode (k : UnsolicitedKind) : f.code ≠ k.code := by
    intro heq
    rw [heq] at h
    revert h
    cases k <;> decide
  have hnone : unsolicitedOf f.code = none := by
    cases hkind : unsolicitedOf f.code with
    | none => rfl
    | some k => exact absurd (unsolicitedOf_eq_some.mp hkind) (hcode k)
  simp only [NoticeUnit.frameStarted, hnone]

theorem frameStarted_of_queued {n : NoticeUnit} {f : NoticeFrame} {k : UnsolicitedKind} (hcode : f.code = k.code)
    (hqueued : n.outstanding k = .queued) : n.frameStarted (.notice f) = n.started k := by
  simp only [NoticeUnit.frameStarted, unsolicitedOf_eq_some.mpr hcode, hqueued, if_true]

/-- Settles O22: by the arbiter's choice, and by the kind of the notice that starts. -/
theorem dArbiterAlternates : Obligations.DArbiterAlternates := by
  refine ⟨fun s hrun => ⟨fun f rest hready hfree hhead hturn => ?_, fun f rest hready hfree hhead hturn => ?_,
    fun duration hheld => ?_, fun f hsend => ?_, fun hforward hlocal => ?_⟩, fun n => ⟨fun _ => rfl, fun _ => frameStarted_of_other,
    fun f hcode hqueued => ?_, fun f hcode hqueued => ?_, fun f hcode hqueued => ?_⟩⟩
  · rw [exec_dFrameStart hrun hready hfree (by rw [hhead]; exact arbiterChoice_forward hturn), if_pos rfl]
    simp only [startForward, hhead, hfree]
  · rw [exec_dFrameStart hrun hready hfree (by rw [hhead]; exact arbiterChoice_local hturn), if_neg nofun]
    simp only [startLocal, hhead, hfree]
  · refine (unlessHeld_of_running _ hrun).trans (congrArg _ ?_)
    rw [hheld]
    cases s.dTx.send <;> rfl
  · refine (unlessHeld_of_running _ hrun).trans (congrArg _ ?_)
    rw [hsend]
  · refine (unlessHeld_of_running _ hrun).trans (congrArg _ ?_)
    rw [hforward, hlocal]
    cases s.dTx.send <;> cases s.dTx.hold <;> rfl
  · rw [frameStarted_of_queued (k := .bootDone) hcode hqueued]
    simp [NoticeUnit.started, NoticeUnit.gathered, NoticeUnit.setOutstanding]
  · rw [frameStarted_of_queued (k := .overrun) hcode hqueued]
    simp [NoticeUnit.started, NoticeUnit.gathered, NoticeUnit.setOutstanding, NoticeUnit.enabled, UnsolicitedKind.bit]
  · rw [frameStarted_of_queued (k := .sequence) hcode hqueued]
    simp [NoticeUnit.started, NoticeUnit.gathered, NoticeUnit.setOutstanding, NoticeUnit.enabled, UnsolicitedKind.bit]

/-! ### Ends and port U (R94, R104, R121) -/

theorem exec_dFrameSent {s : State} {f : DFrame} (hrun : s.held = false) (hsend : s.dTx.send = .sending f)
    (hother : isRestartResponse f = false ∨ ∀ form, s.engine ≠ .restarting form) :
    exec .dFrameSent s = .next { s with dTx := { s.dTx with send := .ready, lane := .idle } } := by
  refine (unlessHeld_of_running _ hrun).trans (congrArg _ ?_)
  rw [hsend]
  dsimp only
  cases hengine : s.engine with
  | restarting form =>
    obtain h | h := hother
    · simp only [h, Bool.false_eq_true, if_false]
    · exact absurd hengine (h form)
  | idle => rfl
  | holding h => rfl

/-- Settles O23. -/
theorem transmissionsStartAndEnd : Obligations.TransmissionsStartAndEnd := by
  refine ⟨fun s hrun => ⟨fun f => exec_dFrameSent hrun, fun f hsend => ⟨?_, ?_⟩, fun hready => ?_, fun hready => ?_⟩,
    fun s hrun hready => ⟨fun f hslot => ?_, fun f rest hslot hhead => ?_, fun hslot hempty => ?_⟩⟩ <;>
    refine (unlessHeld_of_running _ hrun).trans (congrArg _ ?_)
  · rw [hsend]
  · rw [hsend]
  · rw [hready]
  · rw [hready]
  · rw [hready, hslot]
  · rw [hready, hslot, hhead]
  · rw [hready, hslot, hempty]

/-! ### The restart (R140, R141, R195) -/

theorem exec_dFrameSent_of_restart {s : State} {f : DFrame} {form : RestartForm} (hrun : s.held = false)
    (hengine : s.engine = .restarting form) (hsend : s.dTx.send = .sending f) (hresponse : isRestartResponse f = true) :
    exec .dFrameSent s = .next (beginRestart form { s with dTx := { s.dTx with send := .ready, lane := .idle } }) := by
  refine (unlessHeld_of_running _ hrun).trans (congrArg _ ?_)
  rw [hsend]
  dsimp only
  rw [hengine]
  exact if_pos hresponse

theorem laneAfterRestart_eq {α : Type} (send : Send α) (endSent : Bool) [Decidable (send = .ready)] :
    laneAfterRestart send endSent = if send = .ready ∨ endSent = true then .idle else .cut := by
  cases send <;> cases endSent <;> simp

/-- R64: what an interruption leaves in the two banks. -/
theorem endBankWork_banks (s : State) :
    (s.active = .a → (endBankWork s).bankA = s.bankA ∧ (endBankWork s).bankB = match s.shadow with
      | .copying _ | .loading => Bank.empty
      | .editable | .validating _ _ | .armed => s.bankB) ∧
    (s.active = .b → (endBankWork s).bankB = s.bankB ∧ (endBankWork s).bankA = match s.shadow with
      | .copying _ | .loading => Bank.empty
      | .editable | .validating _ _ | .armed => s.bankA) := by
  refine ⟨fun hactive => ?_, fun hactive => ?_⟩ <;> rw [endBankWork_eq] <;>
    cases hshadow : s.shadow <;> simp [setShadowBank, shadowAfterEnd, shadowBank, bankNamed, BankName.other, hactive, hshadow]

theorem Roomy.responseRoom {s : State} (h : Roomy s) : responseRoom s = true := (responseRoom_iff s).mpr h

theorem responseRoom_of_not_roomy {s : State} (h : ¬ Roomy s) : responseRoom s = false :=
  Bool.eq_false_iff.mpr fun hroom => h ((responseRoom_iff s).mp hroom)

/-- R134, R140: the answer to a RESTART. -/
theorem offerAnswer_of_restart (response : ResponseFrame) (form : RestartForm) (s : State) :
    offerAnswer response none (some form) s =
      if Roomy s then { s with localQ := s.localQ ++ [.response response], engine := .restarting form }
      else { s with engine := .holding { response := some response, successor := none, restart := some form } } := by
  by_cases hroomy : Roomy s
  · rw [if_pos hroomy]
    simp only [offerAnswer, hroomy.responseRoom, if_true, ite_self, engineHolding, pushLocal]
  · rw [if_neg hroomy]
    simp only [offerAnswer, responseRoom_of_not_roomy hroomy, Bool.false_eq_true, if_false, ite_self, engineHolding]

theorem restartFormOf_code (form : RestartForm) : restartFormOf (match form with
    | .keep => 0x00
    | .reload => 0x01) = some form := by
  cases form <;> rfl

theorem exec_restart_of_form {s : State} {f : RequestFrame} {rest : List ReverseFrame} {form : RestartForm}
    (htakes : Takes 0x04 f rest s) (hmode : s.mode = .running) (hlength : f.params.length = 1)
    (hform : restartFormOf (param f.params 0) = some form) :
    exec .restart s = .next (offerAnswer (buildResponse (byteOf s.address) f.tag 0x04 0x00 []) none (some form)
      { s with requestQ := rest }) := by
  have hjudged : judgeRequest restartRules f { s with requestQ := rest } = none :=
    judgeRequest_eq_none.mpr ⟨by rw [hlength]; rfl, fun h => absurd (hmode.symm.trans h) nofun,
      congrArg Option.isSome hform, rfl, rfl⟩
  have hexec : exec .restart s = .next (takeRequest restartRules runRestart s) := unlessHeld_of_running _ htakes.1
  rw [hexec, takeRequest_of_passed (r := restartRules) htakes hjudged rfl, ← hform, ← htakes.2.2.2]
  rfl

/-- Settles O24: the answer keeps the form, and its end begins the restart. -/
theorem restartAnswersThenBegins : Obligations.RestartAnswersThenBegins := by
  refine ⟨fun s f rest form htakes hmode hparams => ?_, fun s f form hrun hengine hsend hresponse => ?_⟩
  · have hform : restartFormOf (param f.params 0) = some form := by
      rw [hparams]
      exact restartFormOf_code form
    rw [exec_restart_of_form htakes hmode (by rw [hparams]; rfl) hform, offerAnswer_of_restart]
  · have hbanks := endBankWork_banks { s with dTx := { s.dTx with send := .ready, lane := .idle } }
    obtain ⟨bankA, bankB, hended⟩ := endBankWork_fields { s with dTx := { s.dTx with send := .ready, lane := .idle } }
    rw [hended] at hbanks
    refine ⟨interruptedNv s.store.op s.freeCount s.nv, bankA, bankB, ?_, interruptedNv_spec _ _ _, hbanks⟩
    rw [exec_dFrameSent_of_restart hrun hengine hsend hresponse, ← laneAfterRestart_eq]
    simp only [beginRestart, interruptStore, hended]
    rfl

/-! ### Held frames (R93, R118, R126, R134) -/

theorem exec_heldResponseEnters {s : State} {h : Held} {r : ResponseFrame} (hrun : s.held = false)
    (hengine : s.engine = .holding h) (hresponse : h.response = some r) : exec .heldResponseEnters s = .next (
      if responseRoom s then { pushLocal (.response r) s with engine := engineHolding { h with response := none } } else s) := by
  refine (unlessHeld_of_running _ hrun).trans (congrArg _ ?_)
  rw [hengine]
  dsimp only
  rw [hresponse]

theorem exec_successorEnters {s : State} {h : Held} {e : EnumFrame} (hrun : s.held = false)
    (hengine : s.engine = .holding h) (hsuccessor : h.successor = some e) : exec .successorEnters s = .next (
      if reverseRoom s then
        { s with reverseQ := s.reverseQ ++ [.enumerate e], engine := engineHolding { h with successor := none } } else s) := by
  refine (unlessHeld_of_running _ hrun).trans (congrArg _ ?_)
  rw [hengine]
  dsimp only
  rw [hsuccessor]

/-- R93, R158: a response that finds no place stays held. -/
theorem exec_heldResponseEnters_of_full {s : State} {h : Held} (hrun : s.held = false) (hengine : s.engine = .holding h)
    (hfull : ¬ Roomy s) : exec .heldResponseEnters s = .next s := by
  cases hresponse : h.response with
  | some r => rw [exec_heldResponseEnters hrun hengine hresponse, if_neg (fun hroom => hfull ((responseRoom_iff s).mp hroom))]
  | none =>
    refine (unlessHeld_of_running _ hrun).trans (congrArg _ ?_)
    rw [hengine]
    dsimp only
    rw [hresponse]

theorem exec_successorEnters_of_full {s : State} {h : Held} (hrun : s.held = false) (hengine : s.engine = .holding h)
    (hfull : 8 ≤ s.reverseQ.length) : exec .successorEnters s = .next s := by
  cases hsuccessor : h.successor with
  | some e =>
    rw [exec_successorEnters hrun hengine hsuccessor, if_neg fun hroom => by have := (reverseRoom_iff s).mp hroom; omega]
  | none =>
    refine (unlessHeld_of_running _ hrun).trans (congrArg _ ?_)
    rw [hengine]
    dsimp only
    rw [hsuccessor]

/-- R126: what the engine is once the response has left it. -/
theorem engineHolding_noResponse (h : Held) : engineHolding { h with response := none } =
    match h.successor, h.restart with
    | some e, form => .holding { response := none, successor := some e, restart := form }
    | none, some form => .restarting form
    | none, none => .idle := by
  obtain ⟨response, successor, restart⟩ := h
  cases successor <;> cases restart <;> rfl

theorem engineHolding_noSuccessor {h : Held} (hrestart : h.restart = none) : engineHolding { h with successor := none } =
    match h.response with
    | some r => .holding { response := some r, successor := none, restart := none }
    | none => .idle := by
  obtain ⟨response, successor, restart⟩ := h
  cases hrestart
  cases response <;> rfl

end Sys2Proof.Machine

/-! O25, O27, O28, O29: every request of R74 is taken in the same way. -/

namespace Sys2Proof.Machine

/-! ### The requests of R74 -/

/-- A request of R74: the command that takes it, what R128 asks of it, and what it does. -/
structure RequestMeaning where
  command : Instr
  rules   : RequestRules
  run     : RequestFrame → State → State × Answer

/-- The requests of R74, in the order of their codes. -/
def requests : List RequestMeaning :=
  [⟨.identify, identifyRules, fun _ t => (t, dataAnswer (identityRecord t))⟩,
   ⟨.readStatus, readStatusRules, fun _ t => (t, dataAnswer (statusRecord t))⟩,
   ⟨.setLink, setLinkRules, runSetLink⟩,
   ⟨.restart, restartRules, runRestart⟩,
   ⟨.releaseAddress, releaseAddressRules, runReleaseAddress⟩,
   ⟨.writeGroup, writeGroupRules, runWriteGroup⟩,
   ⟨.writeMap, writeMapRules, runWriteMap⟩,
   ⟨.writeCurve, writeCurveRules, runWriteCurve⟩,
   ⟨.writePoints, writePointsRules, runWritePoints⟩,
   ⟨.readTable, readTableRules, runReadTable⟩,
   ⟨.readCounters, readCountersRules, runReadCounters⟩,
   ⟨.evaluate, evaluateRules, runEvaluate⟩,
   ⟨.copyActive, copyActiveRules, runCopyActive⟩,
   ⟨.clearShadow, clearShadowRules, runClearShadow⟩,
   ⟨.validate, validateRules, runValidate⟩,
   ⟨.commit, commitRules, runCommit⟩,
   ⟨.cancelCommit, cancelCommitRules, runCancelCommit⟩,
   ⟨.storeDirectory, storeDirectoryRules, fun _ t => (t, dataAnswer (directoryRecord t))⟩,
   ⟨.storeSave, storeSaveRules, runStoreSave⟩,
   ⟨.storeLoad, storeLoadRules, runStoreLoad⟩,
   ⟨.storeErase, storeEraseRules, runStoreErase⟩,
   ⟨.storeSetBoot, storeSetBootRules, runStoreSetBoot⟩,
   ⟨.storeProtect, storeProtectRules, runStoreProtect⟩]

/-- R127: the command takes the requests with the code of the rules, and acts on them as `run` says. -/
def Executes (c : Instr) (r : RequestRules) (run : RequestFrame → State → State × Answer) : Prop :=
  ∀ s, exec c s = unlessHeld s (takeRequest r run s)

theorem executes_of_request : ∀ m ∈ requests, Executes m.command m.rules m.run := by
  simp only [requests, List.forall_mem_cons, List.not_mem_nil, false_implies, implies_true, and_true]
  and_intros <;> exact fun _ => rfl

theorem request_of_any {code : Byte} {c : Instr}
    (h : requests.any (fun m => decide (m.command = c ∧ m.rules.code = code)) = true) :
    ∃ m ∈ requests, m.command = c ∧ m.rules.code = code := by
  obtain ⟨m, hm, h⟩ := List.any_eq_true.mp h
  exact ⟨m, hm, of_decide_eq_true h⟩

theorem eq_or_of_ite_eq_some {p : Prop} [Decidable p] {c e : Instr} {other : Option Instr}
    (h : (if p then some e else other) = some c) : p ∧ e = c ∨ other = some c := by
  split at h
  next hp => exact .inl ⟨hp, Option.some.inj h⟩
  next => exact .inr h

/-- R74: every command that a code names stands in the list. -/
theorem request_of_commandOf {code : Byte} {c : Instr} (h : commandOf code = some c) :
    ∃ m ∈ requests, m.command = c ∧ m.rules.code = code := by
  unfold commandOf at h
  iterate 23
    obtain ⟨rfl, rfl⟩ | h := eq_or_of_ite_eq_some h
    · exact request_of_any rfl
  cases h

theorem mem_knownCodes_iff {code : Byte} : code ∈ knownCodes ↔ ∃ c, commandOf code = some c := by
  constructor
  · intro h
    have hnamed : ∀ code ∈ knownCodes, (commandOf code).isSome = true := by decide
    exact Option.isSome_iff_exists.mp (hnamed code h)
  · rintro ⟨c, h⟩
    obtain ⟨m, hm, -, rfl⟩ := request_of_commandOf h
    have hlisted : ∀ m ∈ requests, m.rules.code ∈ knownCodes := by
      simp only [requests, List.forall_mem_cons, List.not_mem_nil, false_implies, implies_true, and_true]
      and_intros <;> decide
    exact hlisted m hm

/-- R127: an engine that is not IDLE takes no request. -/
theorem takeRequest_of_busy {r : RequestRules} {run : RequestFrame → State → State × Answer} {s : State} (h : s.engine ≠ .idle) :
    takeRequest r run s = s := by
  unfold takeRequest
  split
  next hidle _ => exact absurd hidle h
  next => rfl

theorem unlessHeld_self (s : State) : unlessHeld s s = .next s := by
  cases hheld : s.held <;> simp [unlessHeld, hheld]

theorem exec_of_busy {s : State} {c : Instr} (hbusy : s.engine ≠ .idle)
    (hc : c = .enumerateTaken ∨ c = .badCode ∨ ∃ code, commandOf code = some c) : exec c s = .next s := by
  obtain rfl | rfl | ⟨code, hcode⟩ := hc
  · rw [show exec .enumerateTaken s = execEnumerateTaken s from rfl, execEnumerateTaken]
    split
    next hidle _ => exact absurd hidle hbusy
    next => exact unlessHeld_self s
  · rw [show exec .badCode s = execBadCode s from rfl, execBadCode]
    split
    next hidle _ => exact absurd hidle hbusy
    next => exact unlessHeld_self s
  · obtain ⟨m, hm, rfl, -⟩ := request_of_commandOf hcode
    rw [executes_of_request m hm s, takeRequest_of_busy hbusy]
    exact unlessHeld_self s

/-- Settles O27. -/
theorem engineHoldsWhatFindsNoPlace : Obligations.EngineHoldsWhatFindsNoPlace := by
  refine ⟨fun s h hrun hengine => ⟨fun r hresponse hroomy => ?_, fun e hsuccessor hrestart hroom => ?_, fun hfull => ?_,
    exec_successorEnters_of_full hrun hengine⟩, fun s c => exec_of_busy⟩
  · rw [exec_heldResponseEnters hrun hengine hresponse, if_pos hroomy.responseRoom, engineHolding_noResponse] <;> rfl
  · rw [exec_successorEnters hrun hengine hsuccessor, if_pos ((reverseRoom_iff s).mpr hroom), engineHolding_noSuccessor hrestart] <;> rfl
  · exact exec_heldResponseEnters_of_full hrun hengine fun ⟨hplace, hquiet⟩ =>
      hfull.elim (fun h => by omega) (fun h => h hquiet)

/-! ### A request that is taken (R128) -/

/-- R128: the first step that fails gives the answer. -/
theorem Executes.refused {c : Instr} {r : RequestRules} {run : RequestFrame → State → State × Answer} {s : State}
    {f : RequestFrame} {rest : List ReverseFrame} {refusal : Result} (h : Executes c r run) (htakes : Takes r.code f rest s)
    (hjudged : judgeRequest r f { s with requestQ := rest } = some refusal) :
    exec c s = .next (answeredWith f refusal [] { s with requestQ := rest }) := by
  rw [h s, unlessHeld_of_running _ htakes.1, takeRequest_of_refused htakes hjudged]

/-- R128, R133: a request that passes acts and is answered. -/
theorem Executes.passed {c : Instr} {r : RequestRules} {run : RequestFrame → State → State × Answer} {s t : State}
    {f : RequestFrame} {rest : List ReverseFrame} {a : Answer} (h : Executes c r run) (htakes : Takes r.code f rest s)
    (hjudged : judgeRequest r f { s with requestQ := rest } = none) (hran : run f { s with requestQ := rest } = (t, a)) :
    exec c s = .next (respond f a t) := by
  rw [h s, unlessHeld_of_running _ htakes.1, takeRequest_of_passed htakes hjudged hran]

theorem judgeRequest_of_badLength {r : RequestRules} {f : RequestFrame} (h : r.lengthOk f.params.length = false) (s : State) :
    judgeRequest r f s = some .badLength := by
  simp [judgeRequest, h]

theorem judgeRequest_of_booting {r : RequestRules} {f : RequestFrame} {s : State} (hlength : r.lengthOk f.params.length = true)
    (hmode : s.mode = .booting) (hboot : r.bootOk f.params = false) : judgeRequest r f s = some .state := by
  simp [judgeRequest, hlength, hmode, hboot]

theorem judgeRequest_of_outOfRange {r : RequestRules} {f : RequestFrame} {s : State} (hlength : r.lengthOk f.params.length = true)
    (hmode : s.mode = .running) (hrange : r.inRange f.params = false) : judgeRequest r f s = some .badParam := by
  simp [judgeRequest, hlength, hmode, hrange]

theorem judgeRequest_of_inRange {r : RequestRules} {f : RequestFrame} {s : State} (hlength : r.lengthOk f.params.length = true)
    (hmode : s.mode = .running ∨ r.bootOk f.params = true) (hrange : r.inRange f.params = true) :
    judgeRequest r f s = (r.owner f.params s).or (r.conditions f.params s) := by
  obtain hmode | hboot := hmode
  · simp [judgeRequest, hlength, hmode, hrange]
  · simp [judgeRequest, hlength, hboot, hrange]

end Sys2Proof.Machine

/-! O25, O28, O29, O30: cancelled commits and refused requests. -/

namespace Sys2Proof.Machine

/-! ### Refused requests (R128, R130) -/

theorem fixedLength (k n : Nat) : n = k ↔ lengthIs k n = true := beq_iff_eq.symm

theorem pointsLength_iff (n : Nat) : (∃ k, 1 ≤ k ∧ k ≤ 15 ∧ n = 1 + 4 * k) ↔ pointsLength n = true := by
  simp only [pointsLength, Bool.and_eq_true, decide_eq_true_iff, beq_iff_eq]
  exact ⟨fun ⟨k, _, _, _⟩ => by omega, fun _ => ⟨n / 4, by omega⟩⟩

theorem evaluateLength_iff (n : Nat) : (∃ k, 1 ≤ k ∧ k ≤ 16 ∧ n = 2 + 2 * k) ↔ evaluateLength n = true := by
  simp only [evaluateLength, Bool.and_eq_true, decide_eq_true_iff, beq_iff_eq]
  exact ⟨fun ⟨k, _, _, _⟩ => by omega, fun _ => ⟨n / 2 - 1, by omega⟩⟩

/-- R129: the lengths accepted are those of the rules. -/
theorem acceptedLength_iff : ∀ m ∈ requests, ∀ n, acceptedLength m.rules.code n ↔ m.rules.lengthOk n = true := by
  simp only [requests, List.forall_mem_cons, List.not_mem_nil, false_implies, implies_true, and_true]
  exact ⟨fixedLength 0, fixedLength 0, fixedLength 2, fixedLength 1, fixedLength 0, fixedLength 3, fixedLength 7,
    fixedLength 5, pointsLength_iff, fixedLength 4, fixedLength 4, evaluateLength_iff, fixedLength 0, fixedLength 0,
    fixedLength 0, fixedLength 5, fixedLength 0, fixedLength 0, fixedLength 10, fixedLength 1, fixedLength 1, fixedLength 2,
    fixedLength 1⟩

/-- R130: what passes in BOOTING. -/
def PassesInBoot (r : RequestRules) : Prop :=
  r.bootOk = notInBoot ∨ (r.code = 0x14 ∨ r.code = 0x16) ∧ r.bootOk = activeRoleOnly ∨ r.code = 0x01 ∨ r.code = 0x02 ∨ r.code = 0x30

theorem passesInBoot_of_request : ∀ m ∈ requests, PassesInBoot m.rules := by
  have hnot {r : RequestRules} (h : r.bootOk = notInBoot) : PassesInBoot r := .inl h
  have hread {r : RequestRules} (hcode : r.code = 0x14 ∨ r.code = 0x16) (h : r.bootOk = activeRoleOnly) : PassesInBoot r :=
    .inr (.inl ⟨hcode, h⟩)
  have hall {r : RequestRules} (hcode : r.code = 0x01 ∨ r.code = 0x02 ∨ r.code = 0x30) : PassesInBoot r := .inr (.inr hcode)
  simp only [requests, List.forall_mem_cons, List.not_mem_nil, false_implies, implies_true, and_true]
  exact ⟨hall (.inl rfl), hall (.inr (.inl rfl)), hnot rfl, hnot rfl, hnot rfl, hnot rfl, hnot rfl, hnot rfl, hnot rfl,
    hread (.inl rfl) rfl, hnot rfl, hread (.inr rfl) rfl, hnot rfl, hnot rfl, hnot rfl, hnot rfl, hnot rfl,
    hall (.inr (.inr rfl)), hnot rfl, hnot rfl, hnot rfl, hnot rfl, hnot rfl⟩

theorem PassesInBoot.refused {r : RequestRules} {p : List Byte} (h : PassesInBoot r)
    (hp : r.code ∉ [(0x01 : Byte), 0x02, 0x14, 0x16, 0x30] ∨ (r.code ∈ [(0x14 : Byte), 0x16] ∧ p.head? ≠ some 0x00))
    (hlength : acceptedLength r.code p.length) : r.bootOk p = false := by
  obtain h | ⟨hcode, h⟩ | hcode := h
  · rw [h]
    rfl
  · obtain hp | ⟨-, hp⟩ := hp
    · obtain hcode | hcode := hcode <;> simp [hcode] at hp
    · rw [h]
      cases p with
      | nil =>
        obtain hcode | hcode := hcode <;> rw [hcode] at hlength
        · exact absurd (show 0 = 4 from hlength) nofun
        · obtain ⟨k, -, -, hk⟩ := show ∃ k, 1 ≤ k ∧ k ≤ 16 ∧ 0 = 2 + 2 * k from hlength
          omega
      | cons x xs => simpa [activeRoleOnly] using hp
  · obtain hp | ⟨hp, -⟩ := hp <;> obtain hcode | hcode | hcode := hcode <;> simp [hcode] at hp

theorem exec_badCode_of_unknown {s : State} {f : RequestFrame} {rest : List ReverseFrame} (htakes : Takes f.code f rest s)
    (hunknown : commandOf f.code = none) :
    exec .badCode s = .next (answeredWith f .badCode [] { s with requestQ := rest }) := by
  obtain ⟨hrun, hidle, hhead, -⟩ := htakes
  have hlisted : knownCodes.contains f.code = false := by
    rw [Bool.eq_false_iff, ne_eq, List.contains_iff_mem, mem_knownCodes_iff]
    rintro ⟨c, hc⟩
    rw [hunknown] at hc
    cases hc
  refine (unlessHeld_of_running _ hrun).trans (congrArg _ ?_)
  split
  next g others _ hg =>
    cases hhead.symm.trans hg
    rw [if_neg (Bool.eq_false_iff.mp hlisted)]
    exact respond_of_idle (s := { s with requestQ := rest }) f (plainAnswer .badCode) hidle rfl rfl
  next hno => exact absurd hhead (hno _ _ hidle)

/-- Settles O29: the steps of R128 in their order. -/
theorem codeLengthAndModeAreJudgedFirst : Obligations.CodeLengthAndModeAreJudgedFirst := by
  refine ⟨fun s f rest htakes => ⟨exec_badCode_of_unknown htakes, fun c hc hlength => ?_⟩,
    fun s f rest c htakes hc hlength hmode hboot => ?_, rfl⟩ <;> obtain ⟨m, hm, rfl, hcode⟩ := request_of_commandOf hc
  · rw [← hcode] at htakes
    rw [← hcode, acceptedLength_iff m hm, Bool.not_eq_true] at hlength
    exact (executes_of_request m hm).refused htakes (judgeRequest_of_badLength hlength _)
  · rw [← hcode] at htakes hboot
    rw [← hcode] at hlength
    refine (executes_of_request m hm).refused htakes (judgeRequest_of_booting ((acceptedLength_iff m hm _).mp hlength) hmode
      ((passesInBoot_of_request m hm).refused hboot hlength))

/-! ### Granted requests: every answer is OK or ACCEPTED (R133) -/

/-- R75: the result of a request that is not refused. -/
abbrev Granted (r : ResponseFrame) : Prop := r.result = 0x00 ∨ r.result = 0x01

/-- The responses that a step puts into the local queue, or into the engine, are granted ones. -/
def OnlyGrants (s t : State) : Prop :=
  (∃ q, t.localQ = s.localQ ++ q ∧ ∀ r, LocalFrame.response r ∈ q → Granted r) ∧
    ∀ h r, t.engine = .holding h → h.response = some r → Granted r

/-- What a request does keeps the engine, and puts no response into the local queue. -/
def Unanswering (s t : State) : Prop :=
  t.engine = s.engine ∧ ∃ q, t.localQ = s.localQ ++ q ∧ ∀ r, LocalFrame.response r ∉ q

theorem Unanswering.of_localQ {s t : State} (hengine : t.engine = s.engine) (h : t.localQ = s.localQ) : Unanswering s t :=
  ⟨hengine, [], by rw [h, List.append_nil], fun _ => nofun⟩

theorem NoticeStep.unanswering {s t : State} (h : NoticeStep s t) : Unanswering s t := by
  obtain ⟨n, q, rfl, hq⟩ := h
  refine ⟨rfl, q, rfl, fun r hr => ?_⟩
  obtain rfl | ⟨f, rfl, -⟩ := hq
  · cases hr
  · simp at hr

theorem OnlyGrants.before {s t u : State} (hst : Unanswering s t) (htu : OnlyGrants t u) : OnlyGrants s u := by
  obtain ⟨-, q, hq, hplain⟩ := hst
  obtain ⟨⟨p, hp, hgranted⟩, hengine⟩ := htu
  refine ⟨⟨q ++ p, by rw [hp, hq, List.append_assoc], fun r hr => ?_⟩, hengine⟩
  exact (List.mem_append.mp hr).elim (fun h => absurd h (hplain r)) (hgranted r)

theorem OnlyGrants.after {s t u : State} (hst : OnlyGrants s t) (htu : Unanswering t u) : OnlyGrants s u := by
  obtain ⟨hengine, q, hq, hplain⟩ := htu
  obtain ⟨⟨p, hp, hgranted⟩, hheld⟩ := hst
  refine ⟨⟨p ++ q, by rw [hq, hp, List.append_assoc], fun r hr => ?_⟩, fun h r => hengine ▸ hheld h r⟩
  exact (List.mem_append.mp hr).elim (hgranted r) (fun h => absurd h (hplain r))

theorem onlyGrants_offerAnswer {response : ResponseFrame} (h : Granted response) (restart : Option RestartForm) (s : State) :
    OnlyGrants s (offerAnswer response none restart s) := by
  refine ⟨⟨if responseRoom s then [.response response] else [], ?_, fun r hr => ?_⟩, fun held r hengine hr => ?_⟩
  · rw [offerAnswer_localQ]
    cases responseRoom s
    · exact (List.append_nil _).symm
    · rfl
  · cases hroom : responseRoom s <;> simp [hroom] at hr
    exact hr ▸ h
  · cases hroom : responseRoom s <;> cases restart <;> simp [offerAnswer, engineHolding, hroom] at hengine
    all_goals
      subst hengine
      cases hr
      exact h

theorem onlyGrants_respond (f : RequestFrame) {a : Answer} (h : a.result = .ok ∨ a.result = .accepted) (s : State) :
    OnlyGrants s (respond f a s) := by
  have hgranted : Granted (responseTo f a s) := 
    h.imp (fun h => (congrArg Result.code h : a.result.code = Result.ok.code))
      (fun h => (congrArg Result.code h : a.result.code = Result.accepted.code))
  have hanswer := onlyGrants_offerAnswer hgranted a.restart s
  unfold respond
  split
  · exact hanswer.after (raiseCompletion_step _ _ _).unanswering
  · exact hanswer

/-- R133: a request that passes answers OK or ACCEPTED. -/
def RunsGranted (r : RequestRules) (run : RequestFrame → State → State × Answer) : Prop :=
  ∀ f s, judgeRequest r f s = none →
    Unanswering s (run f s).1 ∧ ((run f s).2.result = .ok ∨ (run f s).2.result = .accepted)

theorem runsGranted_of_ok {r : RequestRules} {run : RequestFrame → State → State × Answer}
    (h : ∀ f s, (run f s).1.engine = s.engine ∧ (run f s).1.localQ = s.localQ ∧ (run f s).2.result = .ok) : RunsGranted r run :=
  fun f s _ => ⟨.of_localQ (h f s).1 (h f s).2.1, .inl (h f s).2.2⟩

theorem runsGranted_of_accepted {r : RequestRules} {run : RequestFrame → State → State × Answer}
    (h : ∀ f s, (run f s).1.engine = s.engine ∧ (run f s).1.localQ = s.localQ ∧ (run f s).2.result = .accepted) :
    RunsGranted r run :=
  fun f s _ => ⟨.of_localQ (h f s).1 (h f s).2.1, .inr (h f s).2.2⟩

theorem runsGranted_of_written {r : RequestRules} (b : RequestFrame → State → Bank) :
    RunsGranted r (fun f s => (setShadowBank (b f s) s, dataAnswer [])) :=
  runsGranted_of_ok fun _ _ => ⟨setShadowBank_engine _ _, setShadowBank_localQ _ _, rfl⟩

theorem runsGranted_readCounters : RunsGranted readCountersRules runReadCounters := by
  refine runsGranted_of_ok fun f s => ⟨?_, ?_, rfl⟩ <;> dsimp only [runReadCounters, clearedCounters] <;> split_ifs <;> rfl

theorem runsGranted_commit : RunsGranted commitRules runCommit := by
  intro f s hjudged
  obtain ⟨-, -, hrange, -⟩ := judgeRequest_eq_none.mp hjudged
  obtain ⟨mode, hmode⟩ := Option.isSome_iff_exists.mp hrange
  simp only [runCommit, hmode]
  exact ⟨.of_localQ rfl rfl, .inr rfl⟩

theorem unanswering_endCommit (what : Completion) (s : State) : Unanswering s (endCommit what s) := by
  unfold endCommit
  dsimp only
  split
  · exact (raiseCompletion_step _ _ { s with shadow := .editable, commit := none }).unanswering
  · exact .of_localQ rfl rfl

theorem runsGranted_cancelCommit : RunsGranted cancelCommitRules runCancelCommit := by
  intro f s _
  dsimp only [runCancelCommit]
  split
  · exact ⟨unanswering_endCommit _ { s with freeCount := s.freeCount + 1 }, .inl rfl⟩
  · exact ⟨.of_localQ rfl rfl, .inl rfl⟩

theorem runsGranted_of_request : ∀ m ∈ requests, RunsGranted m.rules m.run := by
  simp only [requests, List.forall_mem_cons, List.not_mem_nil, false_implies, implies_true, and_true]
  exact ⟨runsGranted_of_ok fun _ _ => ⟨rfl, rfl, rfl⟩, runsGranted_of_ok fun _ _ => ⟨rfl, rfl, rfl⟩,
    runsGranted_of_ok fun _ _ => ⟨rfl, rfl, rfl⟩, runsGranted_of_ok fun _ _ => ⟨rfl, rfl, rfl⟩,
    runsGranted_of_ok fun _ _ => ⟨rfl, rfl, rfl⟩, runsGranted_of_written fun f s => writtenGroup f.params (shadowBank s),
    runsGranted_of_written fun f s => writtenMap f.params (shadowBank s),
    runsGranted_of_written fun f s => writtenCurve f.params (shadowBank s),
    runsGranted_of_written fun f s => writtenPoints f.params (shadowBank s), runsGranted_of_ok fun _ _ => ⟨rfl, rfl, rfl⟩,
    runsGranted_readCounters, runsGranted_of_ok fun _ _ => ⟨rfl, rfl, rfl⟩, runsGranted_of_accepted fun _ _ => ⟨rfl, rfl, rfl⟩,
    runsGranted_of_written fun _ _ => Bank.empty, runsGranted_of_accepted fun _ _ => ⟨rfl, rfl, rfl⟩, runsGranted_commit,
    runsGranted_cancelCommit, runsGranted_of_ok fun _ _ => ⟨rfl, rfl, rfl⟩, runsGranted_of_accepted fun _ _ => ⟨rfl, rfl, rfl⟩,
    runsGranted_of_accepted fun _ _ => ⟨rfl, rfl, rfl⟩, runsGranted_of_accepted fun _ _ => ⟨rfl, rfl, rfl⟩,
    runsGranted_of_accepted fun _ _ => ⟨rfl, rfl, rfl⟩, runsGranted_of_accepted fun _ _ => ⟨rfl, rfl, rfl⟩⟩

theorem Executes.onlyGrants {c : Instr} {r : RequestRules} {run : RequestFrame → State → State × Answer} {s t : State}
    {f : RequestFrame} {rest : List ReverseFrame} (h : Executes c r run) (htakes : Takes r.code f rest s)
    (hjudged : judgeRequest r f { s with requestQ := rest } = none) (hgranted : RunsGranted r run) (ht : exec c s = .next t) :
    OnlyGrants s t := by
  obtain ⟨hrun, hresult⟩ := hgranted f { s with requestQ := rest } hjudged
  cases (h.passed htakes hjudged rfl).symm.trans ht
  have hs : Unanswering s (run f { s with requestQ := rest }).1 := hrun
  exact .before hs (onlyGrants_respond f hresult _)

/-- A refused answer stands alone. -/
theorem refused_of_response {f : RequestFrame} {refusal : Result} {data : List Byte} {s : State} {rest : List ReverseFrame}
    {r : ResponseFrame} (hidle : s.engine = .idle) :
    let t := answeredWith f refusal data { s with requestQ := rest }
    (Roomy s → t.localQ = s.localQ ++ [.response r] →
      t = { s with requestQ := rest, localQ := s.localQ ++ [.response r] }) ∧
    (∀ h, t.engine = .holding h → h.response = some r →
      t = { s with requestQ := rest, engine := .holding { response := some r, successor := none, restart := none } }) := by
  dsimp only [answeredWith]
  refine ⟨fun hroomy hqueue => ?_, fun h hengine hresponse => ?_⟩
  · rw [if_pos hroomy] at hqueue ⊢
    dsimp only at hqueue
    rw [← hqueue]
  · split at hengine
    · exact absurd (hidle.symm.trans hengine) nofun
    next hfull =>
      rw [if_neg hfull]
      cases hengine
      cases hresponse
      rfl

/-- Settles O28: the answer of a request that passes is OK or ACCEPTED. -/
theorem refusedRequestChangesOnlyItsAnswer : Obligations.RefusedRequestChangesOnlyItsAnswer := by
  intro s t c code f rest r htakes hc ht hok haccepted
  obtain ⟨m, hm, rfl, rfl⟩ := request_of_commandOf hc
  have hrefused : ¬ Granted r := fun h => h.elim hok haccepted
  cases hjudged : judgeRequest m.rules f { s with requestQ := rest } with
  | some refusal =>
    cases ((executes_of_request m hm).refused htakes hjudged).symm.trans ht
    exact refused_of_response htakes.2.1
  | none =>
    obtain ⟨⟨q, hq, hqueue⟩, hengine⟩ :=
      (executes_of_request m hm).onlyGrants htakes hjudged (runsGranted_of_request m hm) ht
    refine ⟨fun _ hr => absurd (hqueue r ?_) hrefused, fun h hh hr => absurd (hengine h r hh hr) hrefused⟩
    rw [List.append_cancel_left (hq.symm.trans hr)]
    exact List.mem_singleton_self _

end Sys2Proof.Machine

/-! O30: the ranges of the request parameters. -/

namespace Sys2Proof.Machine

/-! ### Codes and indices as bytes (R78) -/

theorem groupModeOf_eq_none {b : Byte} : groupModeOf b = none ↔ 3 ≤ b.toNat := by
  unfold groupModeOf
  split_ifs <;> simp <;> bv_omega

theorem actionOf_eq_none {b : Byte} : actionOf b = none ↔ 2 ≤ b.toNat := by
  unfold actionOf
  split_ifs <;> simp <;> bv_omega

theorem endPolicyOf_eq_none {b : Byte} : endPolicyOf b = none ↔ 3 ≤ b.toNat := by
  unfold endPolicyOf
  split_ifs <;> simp <;> bv_omega

theorem restartFormOf_eq_none {b : Byte} : restartFormOf b = none ↔ 2 ≤ b.toNat := by
  unfold restartFormOf
  split_ifs <;> simp <;> bv_omega

theorem bootSlotOf_eq_none {b : Byte} : bootSlotOf b = none ↔ 4 ≤ b.toNat ∧ b ≠ 0xFF := by
  unfold bootSlotOf
  split_ifs <;> simp_all

theorem finOf_eq_none {n : Nat} {b : Byte} : finOf n b = none ↔ n ≤ b.toNat := by
  simp [finOf]

theorem isFlag_eq_false {b : Byte} : isFlag b = false ↔ 2 ≤ b.toNat := by
  simp only [isFlag, Bool.or_eq_false_iff, beq_eq_false_iff_ne]
  bv_omega

/-- A reading of two parts fails when the first or the second does. -/
theorem bind_eq_none_iff_or {α β : Type} {o : Option α} {f : α → Option β} {p : Prop} (h : ∀ a, f a = none ↔ p) :
    (o >>= f) = none ↔ o = none ∨ p := by
  cases o <;> simp [h]

theorem finOf_bind_eq_none {β : Type} {n : Nat} {b : Byte} {f : Fin n → Option β} {p : Prop} (h : ∀ i, f i = none ↔ p) :
    (finOf n b >>= f) = none ↔ n ≤ b.toNat ∨ p :=
  (bind_eq_none_iff_or h).trans (or_congr_left finOf_eq_none)

theorem slotOf_eq_none {u g p a c o : Byte} : slotOf [u, g, p, a, c, o] = none ↔ 2 ≤ u.toNat ∨
    u = 1 ∧ (16 ≤ g.toNat ∨ 16 ≤ p.toNat ∨ 2 ≤ a.toNat ∨ 32 ≤ c.toNat ∨ 16 ≤ o.toNat) := by
  have hfields := finOf_bind_eq_none (n := 16) (b := g) fun group => finOf_bind_eq_none (n := 16) (b := p) fun pos =>
    (bind_eq_none_iff_or (o := actionOf a) fun action => finOf_bind_eq_none (n := 32) (b := c) fun curve =>
      finOf_bind_eq_none (n := 16) (b := o) (p := False) (f := fun out => pure (some (MapEntry.mk group pos action curve out)))
        fun _ => iff_of_false nofun not_false)
  rw [or_false, actionOf_eq_none] at hfields
  dsimp only [slotOf]
  split_ifs with h0 h1
  · subst h0; simp
  · subst h1
    rw [hfields]
    simp
  · simp [h1]
    bv_omega

theorem curveOf_eq_none {d start count policy : Byte} : curveOf [d, start, count, policy] = none ↔ 2 ≤ d.toNat ∨
    d = 1 ∧ (count.toNat < 2 ∨ 16 < count.toNat ∨ 3 ≤ policy.toNat ∨ 256 < start.toNat + count.toNat) := by
  have hfields := bind_eq_none_iff_or (o := endPolicyOf policy) fun p => finOf_bind_eq_none (n := 256) (b := start)
    (p := ¬ (2 ≤ count.toNat ∧ count.toNat ≤ 16 ∧ start.toNat + count.toNat ≤ 256))
    (f := fun st => if 2 ≤ count.toNat ∧ count.toNat ≤ 16 ∧ start.toNat + count.toNat ≤ 256 then
      pure (some { start := st, count := count.toNat, policy := p : CurveDef}) else none) fun _ => by split <;> simp_all
  rw [endPolicyOf_eq_none] at hfields
  dsimp only [curveOf]
  by_cases h0 : d = 0
  · simp [h0]
  rw [if_neg h0]
  by_cases h1 : d = 1
  · rw [if_pos h1, hfields]
    simp [h1]
    omega
  · simp [h1]
    bv_omega

/-! ### The refusals (R131) -/

/-- R128: BAD_PARAM while RUNNING, whatever the owner's state. -/
theorem Executes.outOfRange {c : Instr} {r : RequestRules} {run : RequestFrame → State → State × Answer} {s : State}
    {f : RequestFrame} {rest : List ReverseFrame} (h : Executes c r run) (htakes : Takes f.code f rest s)
    (hmode : s.mode = .running) (hcode : f.code = r.code) (hlength : r.lengthOk f.params.length = true)
    (hrange : r.inRange f.params = false) : exec c s = .next (answeredWith f .badParam [] { s with requestQ := rest }) :=
  h.refused (hcode ▸ htakes) (judgeRequest_of_outOfRange hlength hmode hrange)

theorem readInBounds_eq_false {bounds : Option (Nat × Nat)} {first count : Nat} : readInBounds bounds first count = false ↔
    ∀ size most, bounds = some (size, most) → count = 0 ∨ most < count ∨ size < first + count := by
  cases bounds with
  | none => simp [readInBounds]
  | some b =>
    obtain ⟨size, most⟩ := b
    simp only [readInBounds, decide_eq_false_iff_not, Option.some.injEq, Prod.mk.injEq]
    exact ⟨fun h size' most' heq => by omega, fun h => by have := h _ _ ⟨rfl, rfl⟩; omega⟩

theorem tableBounds_of_mem {table : Byte} {size most : Nat}
    (h : (table, size, most) ∈ [((0x00 : Byte), 16, 16), (0x01, 64, 10), (0x02, 32, 16), (0x03, 256, 16)]) :
    tableBounds table = some (size, most) := by
  simp only [List.mem_cons, Prod.mk.injEq, List.not_mem_nil, or_false] at h
  obtain ⟨rfl, rfl, rfl⟩ | ⟨rfl, rfl, rfl⟩ | ⟨rfl, rfl, rfl⟩ | ⟨rfl, rfl, rfl⟩ := h <;> rfl

theorem tableBounds_eq_none {table : Byte} : tableBounds table = none ↔ 4 ≤ table.toNat := by
  unfold tableBounds
  split_ifs <;> simp <;> bv_omega

theorem setBounds_eq_none {set : Byte} : setBounds set = none ↔ 2 ≤ set.toNat := by
  unfold setBounds
  split_ifs <;> simp <;> bv_omega

theorem isSome_eq_false_iff {α : Type} {o : Option α} : o.isSome = false ↔ o = none := by
  rw [Option.isSome_eq_false_iff, Option.isNone_iff_eq_none]

/-- R83, R148: each way to be out of the bounds of a counter set. -/
theorem readCounters_outOfBounds {set first count clear : Byte} (h : 2 ≤ set.toNat ∨ 2 ≤ clear.toNat ∨ count = 0 ∨
      (set = 0 ∧ (16 < count.toNat ∨ 64 < first.toNat + count.toNat)) ∨
      (set = 1 ∧ (10 < count.toNat ∨ 16 < first.toNat + count.toNat))) :
    readInBounds (setBounds set) first.toNat count.toNat = false ∨ 2 ≤ clear.toNat := by
  obtain h | h | h | ⟨rfl, h⟩ | ⟨rfl, h⟩ := h
  · rw [setBounds_eq_none.mpr h]
    exact .inl rfl
  · exact .inr h
  · exact .inl (readInBounds_eq_false.mpr fun _ _ _ => .inl (congrArg BitVec.toNat h))
  · refine .inl (readInBounds_eq_false.mpr fun size most hbounds => .inr ?_)
    cases (show setBounds 0 = some (64, 16) from rfl).symm.trans hbounds
    exact h
  · refine .inl (readInBounds_eq_false.mpr fun size most hbounds => .inr ?_)
    cases (show setBounds 1 = some (16, 10) from rfl).symm.trans hbounds
    exact h

theorem commitModeOf_of_outOfRange {p : List Byte}
    (h : 2 ≤ (param p 0).toNat ∨ param p 0 = 1 ∧ 16 ≤ (param p 1).toNat) : commitModeOf p = none := by
  unfold commitModeOf
  obtain h | ⟨hat, h⟩ := h
  · rw [if_neg (by bv_omega), if_neg (by bv_omega)]
  · rw [if_neg (by rw [hat]; decide), if_pos hat, finOf_eq_none.mpr h]
    rfl

/-- Settles O30: by the reading of each field. -/
theorem parametersOutOfRangeAreRefused : Obligations.ParametersOutOfRangeAreRefused := by
  intro s f rest htakes hmode
  have hrefuse {c : Instr} {r : RequestRules} {run : RequestFrame → State → State × Answer} (h : Executes c r run)
      (hcode : f.code = r.code) {p : List Byte} (hp : f.params = p) (hlength : r.lengthOk p.length = true)
      (hrange : r.inRange p = false) := h.outOfRange htakes hmode hcode (hp ▸ hlength) (hp ▸ hrange)
  refine ⟨fun duration mask hcode hp h => hrefuse (fun _ => rfl) hcode hp rfl ?_,
    fun form hcode hp h => hrefuse (fun _ => rfl) hcode hp rfl ?_,
    fun group mode out hcode hp h => hrefuse (fun _ => rfl) hcode hp rfl ?_,
    fun slot used group pos action curve out hcode hp h => hrefuse (fun _ => rfl) hcode hp rfl ?_,
    fun curve defined start count policy hcode hp h => hrefuse (fun _ => rfl) hcode hp rfl ?_,
    fun start points n hcode hp hpoints h1 h15 h => hrefuse (fun _ => rfl) hcode hp ?_ ?_,
    fun role table first count size most hcode hp htable h => hrefuse (fun _ => rfl) hcode hp rfl ?_,
    fun role table first count hcode hp h => hrefuse (fun _ => rfl) hcode hp rfl ?_,
    fun set first count clear hcode hp h => hrefuse (fun _ => rfl) hcode hp rfl ?_,
    fun role curve values hcode hp h1 h16 h => hrefuse (fun _ => rfl) hcode hp ?_ ?_,
    fun mode group sequence hi lo hcode hp h => hrefuse (fun _ => rfl) hcode hp rfl ?_,
    fun source slot label hcode hp hlabel h => hrefuse (fun _ => rfl) hcode hp ?_ ?_,
    fun slot hcode hp h => hrefuse (fun _ => rfl) hcode hp rfl ?_,
    fun slot hcode hp h => hrefuse (fun _ => rfl) hcode hp rfl ?_,
    fun boot fallback hcode hp h => hrefuse (fun _ => rfl) hcode hp rfl ?_,
    fun mask hcode hp h => hrefuse (fun _ => rfl) hcode hp rfl ?_⟩
  · simp only [setLinkRules, setLinkInRange, Bool.and_eq_false_iff, bne_eq_false_iff_eq, decide_eq_false_iff_not, Nat.not_lt]
    exact h
  · exact isSome_eq_false_iff.mpr (restartFormOf_eq_none.mpr h)
  · simp only [writeGroupRules, writeGroupInRange, Bool.and_eq_false_iff, decide_eq_false_iff_not, Nat.not_lt,
      isSome_eq_false_iff, groupModeOf_eq_none, or_assoc]
    exact h
  · simp only [writeMapRules, writeMapInRange, Bool.and_eq_false_iff, decide_eq_false_iff_not, Nat.not_lt,
      isSome_eq_false_iff, List.drop_one, List.tail_cons, slotOf_eq_none]
    exact h
  · simp only [writeCurveRules, writeCurveInRange, Bool.and_eq_false_iff, decide_eq_false_iff_not, Nat.not_lt,
      isSome_eq_false_iff, List.drop_one, List.tail_cons, curveOf_eq_none]
    exact h
  · simp only [writePointsRules, pointsLength, List.length_cons, Bool.and_eq_true, decide_eq_true_iff, beq_iff_eq]
    omega
  · simp only [writePointsRules, writePointsInRange, pointsCount, List.length_cons, paramNat, param, decide_eq_false_iff_not,
      List.getD_cons_zero]
    omega
  · simp only [readTableRules, readTableInRange, Bool.and_eq_false_iff, isFlag_eq_false]
    refine h.imp id fun h => readInBounds_eq_false.mpr fun size' most' hbounds => ?_
    cases (tableBounds_of_mem htable).symm.trans hbounds
    exact h.imp_left fun h => (congrArg BitVec.toNat h : count.toNat = (0 : Byte).toNat)
  · simp only [readTableRules, readTableInRange, Bool.and_eq_false_iff, isFlag_eq_false]
    exact .inr (readInBounds_eq_false.mpr fun size most hbounds => absurd (hbounds.symm.trans (tableBounds_eq_none.mpr h)) nofun)
  · simp only [readCountersRules, readCountersInRange, Bool.and_eq_false_iff, isFlag_eq_false]
    exact readCounters_outOfBounds h
  · simp only [evaluateRules, evaluateLength, List.length_append, List.length_cons, List.length_nil, length_flatMap_halfBytes,
      Bool.and_eq_true, decide_eq_true_iff, beq_iff_eq]
    omega
  · simp only [evaluateRules, evaluateInRange, Bool.and_eq_false_iff, isFlag_eq_false, decide_eq_false_iff_not, Nat.not_lt]
    exact h
  · exact isSome_eq_false_iff.mpr (commitModeOf_of_outOfRange h)
  · simp only [storeSaveRules, lengthIs, List.length_cons, hlabel, beq_self_eq_true]
  · simp only [storeSaveRules, storeSaveInRange, Bool.and_eq_false_iff, isFlag_eq_false, decide_eq_false_iff_not, Nat.not_lt]
    exact h
  · simp only [storeLoadRules, storeSlotInRange, decide_eq_false_iff_not, Nat.not_lt]
    exact h
  · simp only [storeEraseRules, storeSlotInRange, decide_eq_false_iff_not, Nat.not_lt]
    exact h
  · simp only [storeSetBootRules, setBootInRange, Bool.and_eq_false_iff, isSome_eq_false_iff, bootSlotOf_eq_none, isFlag_eq_false]
    exact h
  · simp only [storeProtectRules, protectInRange, decide_eq_false_iff_not, Nat.not_lt]
    exact h

end Sys2Proof.Machine

/-! O31, O32, O36: records, link settings and curve evaluation. -/

namespace Sys2Proof.Machine

/-! ### Requests that pass (R128, R133) -/

/-- R133: a request that passes acts, and its answer enters the local queue or is held. -/
theorem Executes.answered {c : Instr} {r : RequestRules} {run : RequestFrame → State → State × Answer} {s : State}
    {f : RequestFrame} {rest : List ReverseFrame} (h : Executes c r run)
    (htakes : Takes r.code f rest s) (hjudged : judgeRequest r f { s with requestQ := rest } = none)
    (hengine : (run f { s with requestQ := rest }).1.engine = s.engine) (hlate : (run f { s with requestQ := rest }).2.late = none)
    (hrestart : (run f { s with requestQ := rest }).2.restart = none) :
    exec c s = .next (answeredWith f (run f { s with requestQ := rest }).2.result (run f { s with requestQ := rest }).2.data
      (run f { s with requestQ := rest }).1) := by
  rw [h.passed htakes hjudged rfl, respond_of_idle f _ (hengine.trans htakes.2.1) hlate hrestart]

/-- R133: a read answers OK with its data. -/
theorem Executes.read {c : Instr} {r : RequestRules} {data : RequestFrame → State → List Byte} {s : State} {f : RequestFrame}
    {rest : List ReverseFrame} (h : Executes c r fun g t => (t, dataAnswer (data g t))) (htakes : Takes r.code f rest s)
    (hjudged : judgeRequest r f { s with requestQ := rest } = none) :
    exec c s = .next (answeredWith f .ok (data f { s with requestQ := rest }) { s with requestQ := rest }) :=
  h.answered htakes hjudged rfl rfl rfl

/-- R128: a request without parameters that passes in every mode. -/
theorem judgeRequest_of_record {r : RequestRules} {f : RequestFrame} (s : State) (hlength : r.lengthOk = lengthIs 0)
    (hparams : f.params = []) (hboot : r.bootOk = always) (hrange : r.inRange = always) (howner : r.owner = noRefusal)
    (hconditions : r.conditions = noRefusal) : judgeRequest r f s = none :=
  judgeRequest_eq_none.mpr ⟨by rw [hlength, hparams]; rfl, fun _ => by rw [hboot]; rfl, by rw [hrange]; rfl, by rw [howner]; rfl,
    by rw [hconditions]; rfl⟩

/-! ### Records (R137, R138, R170) -/

/-- R137, R138, R170: a record is answered in every mode. -/
theorem Executes.record {c : Instr} {r : RequestRules} {data : State → List Byte} {s : State} {f : RequestFrame}
    {rest : List ReverseFrame} (h : Executes c r fun _ t => (t, dataAnswer (data t))) (hparams : f.params = [])
    (htakes : Takes r.code f rest s) (hrules : r = { r with
      lengthOk := lengthIs 0, bootOk := always, inRange := always, owner := noRefusal, conditions := noRefusal }) :
    exec c s = .next (answeredWith f .ok (data { s with requestQ := rest }) { s with requestQ := rest }) := by
  refine h.read (data := fun _ => data) htakes (judgeRequest_eq_none.mpr ?_)
  rw [hrules, hparams]
  exact ⟨rfl, fun _ => rfl, rfl, rfl, rfl⟩

/-- R81: the status record, field by field. -/
theorem statusRecord_eq (s : State) : statusRecord s =
    [s.mode.code, byteOf s.address, s.active.code] ++ [s.shadow.code, purposeByte s.shadow] ++ commitBytes s.commit ++
      [storeOpByte s.store.op, boolByte (s.dTx.hold != .free), boolByte (s.flow.upstream == .asserted),
        s.flow.setting, s.notices.mask.setWidth 8, byteOf s.ingress.length] ++
      wordBytes s.counters.uAccepted ++ wordBytes s.counters.uCheckErr ++ wordBytes s.counters.uMalformed ++
      wordBytes s.counters.uOverrun ++ wordBytes s.counters.blocked ++ wordBytes s.counters.duplicates ++
      wordBytes s.counters.dForwarded ++ wordBytes s.counters.dLocal ++ wordBytes s.counters.rAccepted ++
      wordBytes s.counters.rBad ++ wordBytes s.counters.rOverrun ++ wordBytes s.counters.reqDropped := by
  simp only [statusRecord, counterBytes, addressByte, List.flatMap_cons, List.flatMap_nil, List.append_nil, List.append_assoc,
    List.cons_append, List.nil_append]

theorem toList_four {α : Type} (v : Vector α 4) :
    v.toList = [v[(0 : Fin 4)], v[(1 : Fin 4)], v[(2 : Fin 4)], v[(3 : Fin 4)]] := by
  obtain ⟨⟨l⟩, h⟩ := v
  match l, h with
  | [a, b, c, d], _ => rfl

/-- R85: the directory record, slot by slot. -/
theorem directoryRecord_eq (s : State) : directoryRecord s =
    [storeOpByte s.store.op, bootByte s.store.view.setting.boot, boolByte s.store.view.setting.fallback,
      s.store.view.setting.mask.setWidth 8] ++ slotViewBytes s.store.table[(0 : Fin 4)] ++
      slotViewBytes s.store.table[(1 : Fin 4)] ++ slotViewBytes s.store.table[(2 : Fin 4)] ++
      slotViewBytes s.store.table[(3 : Fin 4)] := by
  simp only [directoryRecord, toList_four, settingBytes, List.flatMap_cons, List.flatMap_nil, List.append_nil, List.append_assoc,
    List.cons_append, List.nil_append]

/-- Settles O31: each field of the records by its cases. -/
theorem recordsAreReadInEveryState : Obligations.RecordsAreReadInEveryState := by
  intro s f rest hparams taken mode shadowAndPurpose commit storeOp slotView
  have hmode : s.mode.code = mode := by
    dsimp only [mode]
    cases s.mode <;> rfl
  have hstore : storeOpByte s.store.op = storeOp := by
    dsimp only [storeOp]
    rcases s.store.op with _ | op
    · rfl
    · cases op <;> rfl
  refine ⟨fun htakes => ?_, fun htakes => ?_, fun htakes => ?_⟩
  · rw [Executes.record (r := identifyRules) (fun _ => rfl) hparams htakes rfl, ← hmode]
    rfl
  · have hshadow : [s.shadow.code, purposeByte s.shadow] = shadowAndPurpose := by
      dsimp only [shadowAndPurpose]
      rcases s.shadow with _ | tag | _ | ⟨purpose, tag⟩ | _
      case validating => cases purpose <;> rfl
      all_goals rfl
    have hcommit : commitBytes s.commit = commit := by
      dsimp only [commit]
      rcases s.commit with _ | ⟨origin, tag, commitMode, timeout, timer⟩
      · rfl
      · cases origin <;> cases commitMode <;> rfl
    have hactive : s.active.code = if s.active = .a then 0x00 else 0x01 := by cases s.active <;> rfl
    have hhold : boolByte (s.dTx.hold != .free) = if s.dTx.hold = .free then 0x00 else 0x01 := by
      cases s.dTx.hold <;> rfl
    have hupstream : boolByte (s.flow.upstream == .asserted) = if s.flow.upstream = .asserted then 0x01 else 0x00 := by
      cases s.flow.upstream <;> rfl
    rw [Executes.record (r := readStatusRules) (fun _ => rfl) hparams htakes rfl, statusRecord_eq, ← hmode, ← hshadow, ← hcommit,
      ← hstore, ← hactive, ← hhold, ← hupstream]
  · have hslot (i : Fin 4) : slotViewBytes s.store.table[i] = slotView i := by
      dsimp only [slotView]
      cases s.store.table[i] <;> rfl
    rw [Executes.record (r := storeDirectoryRules) (fun _ => rfl) hparams htakes rfl, directoryRecord_eq, ← hstore, ← hslot 0,
      ← hslot 1, ← hslot 2, ← hslot 3]
    rfl

/-! ### SET_LINK and RELEASE_ADDRESS (R139, R156, R119) -/

/-- R156: the new mask disables a kind that was enabled. -/
abbrev DisabledBy (n : NoticeUnit) (new : BitVec 3) (k : UnsolicitedKind) : Prop :=
  n.mask.getLsbD k.bit = true ∧ new.getLsbD k.bit = false

theorem remask_eq (n : NoticeUnit) (new : BitVec 3) (k : UnsolicitedKind) :
    n.remask new k = if DisabledBy n new k then n.disable k else n := by
  have h : (n.enabled k && !(new.getLsbD k.bit)) = decide (DisabledBy n new k) := by
    simp [NoticeUnit.enabled, DisabledBy]
  rw [NoticeUnit.remask, h]
  exact if_congr decide_eq_true_iff rfl rfl

theorem disable_bootDone (n : NoticeUnit) (p : Prop) [Decidable p] : (if p then n.disable .bootDone else n) = { n with
    bootDone := if p ∧ n.bootDone = .pending then .idle else n.bootDone
    bootOutcome := if p ∧ n.bootDone ≠ .idle then none else n.bootOutcome } := by
  by_cases hp : p
  · cases h : n.bootDone <;>
      simp [hp, NoticeUnit.disable, NoticeUnit.outstanding, NoticeUnit.clearRecord, NoticeUnit.setOutstanding, h]
    rw [← h]
  · simp [hp]

theorem disable_overrun (n : NoticeUnit) (p : Prop) [Decidable p] : (if p then n.disable .overrun else n) = { n with
    overrun := if p ∧ n.overrun = .pending then .idle else n.overrun
    overrunSet := if p ∧ n.overrun ≠ .idle then false else n.overrunSet } := by
  by_cases hp : p
  · cases h : n.overrun <;>
      simp [hp, NoticeUnit.disable, NoticeUnit.outstanding, NoticeUnit.clearRecord, NoticeUnit.setOutstanding, h]
    rw [← h]
  · simp [hp]

theorem disable_sequence (n : NoticeUnit) (p : Prop) [Decidable p] : (if p then n.disable .sequence else n) = { n with
    sequence := if p ∧ n.sequence = .pending then .idle else n.sequence
    accumulator := if p ∧ n.sequence ≠ .idle then 0 else n.accumulator } := by
  by_cases hp : p
  · cases h : n.sequence <;>
      simp [hp, NoticeUnit.disable, NoticeUnit.outstanding, NoticeUnit.clearRecord, NoticeUnit.setOutstanding, h]
    rw [← h]
  · simp [hp]

/-- R156: the whole effect of a new mask. -/
theorem setMask_eq (n : NoticeUnit) (new : BitVec 3) : n.setMask new = {
    mask := new
    completions := n.completions
    bootDone := if DisabledBy n new .bootDone ∧ n.bootDone = .pending then .idle else n.bootDone
    bootOutcome := if DisabledBy n new .bootDone ∧ n.bootDone ≠ .idle then none else n.bootOutcome
    overrun := if DisabledBy n new .overrun ∧ n.overrun = .pending then .idle else n.overrun
    overrunSet := if DisabledBy n new .overrun ∧ n.overrun ≠ .idle then false else n.overrunSet
    sequence := if DisabledBy n new .sequence ∧ n.sequence = .pending then .idle else n.sequence
    accumulator := if DisabledBy n new .sequence ∧ n.sequence ≠ .idle then 0 else n.accumulator } := by
  rw [NoticeUnit.setMask, remask_eq, remask_eq, remask_eq, disable_bootDone, disable_overrun, disable_sequence]

/-- R128: a request in range that has no condition of its own passes while RUNNING. -/
theorem judgeRequest_of_running {r : RequestRules} {f : RequestFrame} {s : State} (hmode : s.mode = .running)
    (hlength : r.lengthOk f.params.length = true) (hrange : r.inRange f.params = true) (howner : r.owner f.params s = none)
    (hconditions : r.conditions f.params s = none) : judgeRequest r f s = none := by
  rw [judgeRequest_of_inRange hlength (.inl hmode) hrange, howner, hconditions]
  rfl

/-- Settles O32. -/
theorem setLinkAndReleaseAddressAct : Obligations.SetLinkAndReleaseAddressAct := by
  refine ⟨fun s f rest duration mask htakes hmode hparams hduration hmask => ?_, fun n new => ?_,
    fun s f rest htakes hmode hparams => ?_⟩
  · have hrange : setLinkInRange [duration, mask] = true := by
      simpa [setLinkInRange, param, paramNat] using ⟨hduration, hmask⟩
    rw [Executes.answered (r := setLinkRules) (run := runSetLink) (fun _ => rfl) htakes (judgeRequest_of_running hmode
      (by rw [hparams]; rfl) (by rw [hparams]; exact hrange) rfl rfl) rfl rfl rfl]
    simp only [runSetLink, hparams]
    rfl
  · intro after disabled
    dsimp only [after, disabled]
    rw [setMask_eq]
    refine ⟨rfl, rfl, fun k => ?_, rfl, rfl, rfl⟩
    cases k <;> rfl
  · rw [Executes.answered (r := releaseAddressRules) (run := runReleaseAddress) (fun _ => rfl) htakes
      (judgeRequest_of_running hmode (by rw [hparams]; rfl) rfl rfl rfl) rfl rfl rfl]
    rfl

end Sys2Proof.Machine

/-! O33, O35, O36: reads and writes of tables, and curve evaluation. -/

namespace Sys2Proof.Machine

/-! ### Reads of a role (R49, R130, R147, R149) -/

/-- R49, R130: the role byte names a bank that can be read. -/
abbrev ReadableRole (role : Byte) (s : State) : Prop :=
  role = 0x00 ∨ (role = 0x01 ∧ s.mode = .running ∧ s.shadow ≠ .loading ∧ ∀ tag, s.shadow ≠ .copying tag)

theorem ReadableRole.isFlag {role : Byte} {s : State} (h : ReadableRole role s) : isFlag role = true := by
  obtain rfl | ⟨rfl, -⟩ := h <;> rfl

theorem ReadableRole.mode {p : List Byte} {s : State} (h : ReadableRole (param p 0) s) :
    s.mode = .running ∨ activeRoleOnly p = true := by
  obtain h | ⟨-, h, -⟩ := h
  · exact .inr (beq_iff_eq.mpr h)
  · exact .inl h

theorem ReadableRole.owner {p : List Byte} {s : State} (h : ReadableRole (param p 0) s) : needsReadable p s = none := by
  unfold needsReadable
  obtain h | ⟨-, -, hloading, hcopying⟩ := h
  · rw [if_neg]
    intro h1
    exact absurd (h.symm.trans h1) (by decide)
  · cases hshadow : s.shadow with
    | loading => exact absurd hshadow hloading
    | copying tag => exact absurd hshadow (hcopying tag)
    | _ => simp

theorem paramFin_of_byteOf {n i : Nat} [NeZero n] {p : List Byte} {j : Fin n} (hn : n ≤ 256) (h : param p i = byteOf j) :
    paramFin n p i = j := by
  rw [paramFin, paramNat, h, toNat_byteOf (by omega)]
  exact Fin.ofNat_val_eq_self j

theorem toNat_param_byteOf {n i : Nat} {p : List Byte} {j : Fin n} (hn : n ≤ 256) (h : param p i = byteOf j) :
    paramNat p i = j := by
  rw [paramNat, h, toNat_byteOf (by omega)]

/-! ### EVALUATE (R149) -/

theorem usableCurve_eq {p : List Byte} {s : State} {curve : Fin 32} (h : paramFin 32 p 1 = curve) :
    usableCurve p s = match (roleBank s (param p 0)).curves[curve] with
      | some c => if ordered (curvePoints (roleBank s (param p 0)) c) then some c else none
      | none => none := by
  subst h
  rfl

/-- Settles O36. -/
theorem evaluateAnswersPerValue : Obligations.EvaluateAnswersPerValue := by
  intro s f rest role curve values htakes hparams h1 h16 hrole b
  have hrole0 : param f.params 0 = role := by rw [hparams]; rfl
  have hcurve : paramFin 32 f.params 1 = curve := paramFin_of_byteOf (by decide) (by rw [hparams]; rfl)
  have hvalues : halvesOf (f.params.drop 2) = values := by
    rw [hparams]
    exact halvesOf_flatMap_halfBytes values
  have hreadable : ReadableRole (param f.params 0) { s with requestQ := rest } := by rw [hrole0]; exact hrole
  have hlength : evaluateLength f.params.length = true := (evaluateLength_iff _).mp ⟨values.length, h1, h16, by
    rw [hparams, List.length_append, length_flatMap_halfBytes]; rfl⟩
  have hrange : evaluateInRange f.params = true := by
    rw [evaluateInRange, hreadable.isFlag, toNat_param_byteOf (by decide) (by rw [hparams]; rfl : param f.params 1 = byteOf curve)]
    exact decide_eq_true curve.isLt
  have hjudged : judgeRequest evaluateRules f { s with requestQ := rest } = needsUsableCurve f.params { s with requestQ := rest } := by
    rw [judgeRequest_of_inRange hlength hreadable.mode hrange]
    show (needsReadable _ _).or _ = _
    rw [hreadable.owner]
    rfl
  have husable : usableCurve f.params { s with requestQ := rest } = match b.curves[curve] with
      | some c => if ordered (curvePoints b c) then some c else none
      | none => none := by
    rw [usableCurve_eq hcurve, hrole0] <;> rfl
  refine ⟨fun c hc hordered => ?_, fun hbad => ?_⟩
  · have hgood : usableCurve f.params { s with requestQ := rest } = some c := by
      rw [husable, hc]
      exact if_pos hordered
    rw [Executes.answered (r := evaluateRules) (run := runEvaluate) (fun _ => rfl) htakes
      (by rw [hjudged, needsUsableCurve, hgood]; rfl) rfl rfl rfl]
    simp only [runEvaluate, dataAnswer, evaluateData, hgood, hvalues, hrole0]
    rfl
  · have hnone : usableCurve f.params { s with requestQ := rest } = none := by
      rw [husable]
      obtain hc | ⟨c, hc, hordered⟩ := hbad
      · rw [hc]
      · rw [hc]
        exact if_neg (Bool.eq_false_iff.mp hordered)
    exact Executes.refused (r := evaluateRules) (run := runEvaluate) (fun _ => rfl) htakes (by rw [hjudged, needsUsableCurve, hnone]; rfl)

/-! ### READ_TABLE and READ_COUNTERS (R147, R148) -/

/-- R147: a read within the bounds of its table is answered with the entries. -/
theorem exec_readTable {s : State} {f : RequestFrame} {rest : List ReverseFrame} {role table first count : Byte} {size most : Nat}
    (htakes : Takes 0x14 f rest s) (hparams : f.params = [role, table, first, count]) (hrole : ReadableRole role s)
    (hbounds : tableBounds table = some (size, most)) (hfits : 1 ≤ count.toNat ∧ count.toNat ≤ most ∧ first.toNat + count.toNat ≤ size) :
    exec .readTable s = .next (answeredWith f .ok
      (tableData (if role = 0x01 then shadowBank s else activeBank s) table first.toNat count.toNat) { s with requestQ := rest }) := by
  have hreadable : ReadableRole (param f.params 0) { s with requestQ := rest } := by rw [hparams]; exact hrole
  have hrange : readTableInRange f.params = true := by
    rw [readTableInRange, hreadable.isFlag, hparams]
    show (true && readInBounds (tableBounds table) first.toNat count.toNat) = true
    rw [hbounds]
    exact decide_eq_true hfits
  have hjudged : judgeRequest readTableRules f { s with requestQ := rest } = none := by
    rw [judgeRequest_of_inRange (by rw [hparams]; rfl) hreadable.mode hrange]
    exact congrArg (Option.or · none) hreadable.owner
  rw [Executes.answered (r := readTableRules) (run := runReadTable) (fun _ => rfl) htakes hjudged rfl rfl rfl]
  simp only [runReadTable, dataAnswer, hparams]
  rfl

/-- R148: a read within the bounds of its set is answered with the records, which are then cleared when asked. -/
theorem exec_readCounters {s : State} {f : RequestFrame} {rest : List ReverseFrame} {set first count clear : Byte} {size most : Nat}
    (htakes : Takes 0x15 f rest s) (hmode : s.mode = .running) (hparams : f.params = [set, first, count, clear])
    (hclear : clear = 0x00 ∨ clear = 0x01) (hbounds : setBounds set = some (size, most))
    (hfits : 1 ≤ count.toNat ∧ count.toNat ≤ most ∧ first.toNat + count.toNat ≤ size) :
    exec .readCounters s = .next (answeredWith f .ok (counterData [set, first, count, clear] s)
      (if clear = 0x01 then clearedCounters [set, first, count, clear] { s with requestQ := rest } else { s with requestQ := rest })) := by
  have hflag : isFlag clear = true := by obtain rfl | rfl := hclear <;> rfl
  have hrange : readCountersInRange f.params = true := by
    rw [readCountersInRange, hparams]
    show (readInBounds (setBounds set) first.toNat count.toNat && isFlag clear) = true
    rw [hbounds, hflag, Bool.and_true]
    exact decide_eq_true hfits
  have hjudged : judgeRequest readCountersRules f { s with requestQ := rest } = none :=
    judgeRequest_of_running hmode (by rw [hparams]; rfl) hrange rfl rfl
  have hengine : (runReadCounters f { s with requestQ := rest }).1.engine = s.engine := by
    dsimp only [runReadCounters, clearedCounters]
    split_ifs <;> rfl
  rw [Executes.answered (r := readCountersRules) (run := runReadCounters) (fun _ => rfl) htakes hjudged hengine rfl rfl]
  simp only [runReadCounters, dataAnswer, hparams]
  rfl

/-- R148: the entries read are cleared when asked. -/
theorem ofFn_cleared {α : Type} {n : Nat} (v : Vector α n) (clear : Byte) (read : Nat → Bool) (zero : α) :
    (Vector.ofFn fun i : Fin n => if clear = 0x01 ∧ read i.val = true then zero else v[i]) =
      if clear = 0x01 then Vector.ofFn fun i : Fin n => if read i.val = true then zero else v[i] else v := by
  by_cases h : clear = 0x01
  · simp only [h, true_and, if_true]
  · simp only [h, false_and, if_false]
    exact Vector.ext fun i hi => by simp

/-- Settles O35: the bytes of each entry, and the entries read. -/
theorem tablesAndCountersAreRead : Obligations.TablesAndCountersAreRead := by
  refine ⟨⟨fun e => ?_, fun e => ?_, fun c => ?_, fun _ => rfl, fun _ => rfl⟩,
    fun s f rest role table first count htakes hparams hrole hcount => ⟨?_, ?_, ?_, ?_⟩,
    fun s f rest first count clear htakes hmode hclear hcount => ⟨?_, ?_⟩⟩
  · obtain ⟨mode, out, emit⟩ := e
    cases mode <;> rfl
  · rcases e with _ | ⟨group, pos, action, curve, out⟩
    · rfl
    · cases action <;> rfl
  · rcases c with _ | ⟨start, count, policy⟩
    · rfl
    · cases policy <;> rfl
  · rintro rfl hfits
    exact exec_readTable htakes hparams hrole rfl ⟨hcount, by omega, hfits⟩
  · rintro rfl hmost hfits
    exact exec_readTable htakes hparams hrole rfl ⟨hcount, hmost, hfits⟩
  · rintro rfl hmost hfits
    exact exec_readTable htakes hparams hrole rfl ⟨hcount, hmost, hfits⟩
  · rintro rfl hmost hfits
    exact exec_readTable htakes hparams hrole rfl ⟨hcount, hmost, hfits⟩
  · intro hparams hmost hfits
    rw [exec_readCounters htakes hmode hparams hclear rfl ⟨hcount, hmost, hfits⟩]
    have hcleared := ofFn_cleared s.slotCounts clear (fun i => decide (first.toNat ≤ i ∧ i < first.toNat + count.toNat)) { sat := 0, range := 0 }
    refine Eq.trans ?_ (congrArg (fun v => Host.Outcome.next (answeredWith f .ok _ { s with requestQ := rest, slotCounts := v })) hcleared.symm)
    obtain rfl | rfl := hclear <;> rfl
  · intro hparams hmost hfits
    rw [exec_readCounters htakes hmode hparams hclear rfl ⟨hcount, hmost, hfits⟩]
    have hcleared := ofFn_cleared s.groupCounts clear (fun i => decide (first.toNat ≤ i ∧ i < first.toNat + count.toNat)) { gap := 0, dup := 0 }
    refine Eq.trans ?_ (congrArg (fun v => Host.Outcome.next (answeredWith f .ok _ { s with requestQ := rest, groupCounts := v })) hcleared.symm)
    obtain rfl | rfl := hclear <;> rfl

end Sys2Proof.Machine

/-! O33, O46: table writes and bank images. -/

namespace Sys2Proof.Machine

/-! ### Entries read back from their bytes (R78) -/

theorem groupModeOf_code (mode : GroupMode) : groupModeOf mode.code = some mode := by cases mode <;> rfl

theorem actionOf_code (action : Action) : actionOf action.code = some action := by cases action <;> rfl

theorem endPolicyOf_code (policy : EndPolicy) : endPolicyOf policy.code = some policy := by cases policy <;> rfl

theorem finOf_byteOf {n : Nat} (hn : n ≤ 256) (i : Fin n) : finOf n (byteOf i) = some i := by
  have hi : (byteOf i).toNat = i := toNat_byteOf (by omega)
  simp [finOf, hi]

theorem groupOf_groupBytes (e : GroupEntry) : groupOf (groupBytes e) = some e := by
  simp only [groupBytes, groupOf, groupModeOf_code, finOf_byteOf (show 16 ≤ 256 by decide), finOf_byteOf (show 17 ≤ 256 by decide),
    Option.bind_eq_bind, Option.bind_some, Option.pure_def]

theorem slotOf_slotBytes (e : Option MapEntry) : slotOf (slotBytes e) = some e := by
  cases e with
  | none => rfl
  | some e =>
    simp only [slotBytes, slotOf, actionOf_code, finOf_byteOf (show 16 ≤ 256 by decide), finOf_byteOf (show 32 ≤ 256 by decide),
      Option.bind_eq_bind, Option.bind_some, Option.pure_def]
    rfl

theorem curveOf_curveBytes {e : Option CurveDef} (h : ∀ c, e = some c → c.wellFormed) : curveOf (curveBytes e) = some e := by
  cases e with
  | none => rfl
  | some c =>
    obtain ⟨h2, h16, hspan⟩ := h c rfl
    have hcount : (byteOf c.count).toNat = c.count := toNat_byteOf (by omega)
    have hstart : (byteOf c.start).toNat = c.start := toNat_byteOf c.start.isLt
    simp only [curveBytes, curveOf, endPolicyOf_code, finOf_byteOf (show 256 ≤ 256 by decide), hcount, hstart,
      Option.bind_eq_bind, Option.bind_some, Option.pure_def, if_pos (And.intro h2 (And.intro h16 hspan))]
    rfl

theorem pointOf_pointBytes (p : Point) : pointOf (pointBytes p) = some p :=
  congrArg some (congrArg₂ Point.mk (halfOf_halfBytes p.x) (halfOf_halfBytes p.y))

/-! ### Tables of entries of one width (R79) -/

theorem drop_flatMap {α : Type} {f : α → List Byte} {w : Nat} (hf : ∀ a, (f a).length = w) (l : List α) (k : Nat) :
    (l.flatMap f).drop (w * k) = (l.drop k).flatMap f := by
  induction k generalizing l with
  | zero => simp
  | succ k ih =>
    cases l with
    | nil => simp
    | cons a rest =>
      rw [List.flatMap_cons, Nat.mul_succ, Nat.add_comm, ← List.drop_drop, ← hf a, List.drop_left, hf a, ih rest,
        List.drop_succ_cons]

/-- R79: entry `i` of a table stands at its offset. -/
theorem slice_flatMap {α : Type} {f : α → List Byte} {w n : Nat} (hf : ∀ a, (f a).length = w) (v : Vector α n) (i : Fin n)
    (before after : List Byte) {offset : Nat} (hoffset : before.length = offset) :
    slice (before ++ v.toList.flatMap f ++ after) (offset + w * i) w = f v[i] := by
  have hi : i.val < v.toList.length := by simp
  have hlong : w * i + w ≤ (v.toList.flatMap f).length := by
    simp only [List.length_flatMap, hf, List.map_const', List.sum_replicate, smul_eq_mul, Vector.length_toList]
    calc w * i + w = (i + 1) * w := by ring
      _ ≤ n * w := Nat.mul_le_mul_right w i.isLt
  rw [slice, ← List.drop_drop, ← hoffset, List.append_assoc, List.drop_left, List.drop_append_of_le_length (by omega),
    List.take_append_of_le_length (by rw [List.length_drop]; omega), drop_flatMap hf, List.drop_eq_getElem_cons hi,
    List.flatMap_cons, ← hf, List.take_left]
  simp

theorem tableOf_eq_some {α : Type} {n : Nat} {entry : Fin n → Option α} {v : Vector α n} (h : ∀ i : Fin n, entry i = some v[i]) :
    tableOf n entry = some v := by
  have hsome : ∀ i, (entry i).isSome := fun i => by rw [h i]; rfl
  rw [tableOf, dif_pos hsome]
  congr 1
  ext i hi
  simp [h]

theorem length_groupBytes (e : GroupEntry) : (groupBytes e).length = 3 := rfl
theorem length_slotBytes (e : Option MapEntry) : (slotBytes e).length = 6 := by cases e <;> rfl
theorem length_curveBytes (e : Option CurveDef) : (curveBytes e).length = 4 := by cases e <;> rfl
theorem length_pointBytes (p : Point) : (pointBytes p).length = 4 := rfl

theorem length_tableBytes {α : Type} {f : α → List Byte} {w n : Nat} (hf : ∀ a, (f a).length = w) (v : Vector α n) :
    (v.toList.flatMap f).length = n * w := by
  simp only [List.length_flatMap, hf, List.map_const', List.sum_replicate, smul_eq_mul, Vector.length_toList]

theorem length_bankBytes (b : Bank) : (bankBytes b).length = 1584 := by
  simp only [bankBytes, List.length_append, length_tableBytes length_groupBytes, length_tableBytes length_slotBytes,
    length_tableBytes length_curveBytes, length_tableBytes length_pointBytes]

theorem bankOf_bankBytes {b : Bank} (h : b.wellFormed) : bankOf (bankBytes b) = some b := by
  have hgroups (i : Fin 16) : groupOf (slice (bankBytes b) (3 * i) 3) = some b.groups[i] := by
    have := slice_flatMap length_groupBytes b.groups i [] (b.slots.toList.flatMap slotBytes ++
      (b.curves.toList.flatMap curveBytes ++ b.points.toList.flatMap pointBytes)) (offset := 0) rfl
    rw [Nat.zero_add, List.nil_append, ← List.append_assoc, ← List.append_assoc] at this
    rw [bankBytes, this, groupOf_groupBytes]
  have hslots (i : Fin 64) : slotOf (slice (bankBytes b) (48 + 6 * i) 6) = some b.slots[i] := by
    have := slice_flatMap length_slotBytes b.slots i (b.groups.toList.flatMap groupBytes)
      (b.curves.toList.flatMap curveBytes ++ b.points.toList.flatMap pointBytes) (length_tableBytes length_groupBytes _)
    rw [← List.append_assoc] at this
    rw [bankBytes, this, slotOf_slotBytes]
  have hcurves (i : Fin 32) : curveOf (slice (bankBytes b) (432 + 4 * i) 4) = some b.curves[i] := by
    rw [bankBytes, slice_flatMap length_curveBytes b.curves i (b.groups.toList.flatMap groupBytes ++ b.slots.toList.flatMap slotBytes)
      (b.points.toList.flatMap pointBytes) (by
        rw [List.length_append, length_tableBytes length_groupBytes, length_tableBytes length_slotBytes]),
      curveOf_curveBytes (h i)]
  have hpoints (i : Fin 256) : pointOf (slice (bankBytes b) (560 + 4 * i) 4) = some b.points[i] := by
    have := slice_flatMap length_pointBytes b.points i (b.groups.toList.flatMap groupBytes ++ b.slots.toList.flatMap slotBytes ++
      b.curves.toList.flatMap curveBytes) [] (by
        rw [List.length_append, List.length_append, length_tableBytes length_groupBytes, length_tableBytes length_slotBytes,
          length_tableBytes length_curveBytes])
    rw [List.append_nil] at this
    rw [bankBytes, this, pointOf_pointBytes]
  rw [bankOf, if_pos (length_bankBytes b), tableOf_eq_some hgroups, tableOf_eq_some hslots, tableOf_eq_some hcurves,
    tableOf_eq_some hpoints]
  rfl

/-! ### The check of a body (R79) -/

/-- R79: one bit of a byte under the CRC-32. -/
def crc32Fed (c : Word) (bit : Bool) : Word := if (c.getLsbD 0 ^^ bit) = true then (c >>> 1) ^^^ (0x04C11DB7#32).reverse else c >>> 1

theorem crc32Bit_xor (c d : Word) : crc32Bit (c ^^^ d) = crc32Fed c (d.getLsbD 0) ^^^ (d >>> 1) := by
  have hpolynomial : (0x04C11DB7#32).reverse = 0xEDB88320#32 := by decide +kernel
  have hshift : (c ^^^ d) >>> 1 = (c >>> 1) ^^^ (d >>> 1) := BitVec.ushiftRight_xor_distrib c d 1
  rw [crc32Bit, crc32Fed, BitVec.getLsbD_xor, hpolynomial, hshift]
  split
  · rw [BitVec.xor_assoc, BitVec.xor_assoc, BitVec.xor_comm (d >>> 1)]
  · rfl

theorem iterate_crc32Bit_xor (c : Word) (b : Byte) (k : Nat) : iterate crc32Bit k (c ^^^ b.setWidth 32) =
    (List.range k).foldl (fun c i => crc32Fed c (b.getLsbD i)) c ^^^ (b.setWidth 32 >>> k) := by
  induction k with
  | zero => simp [iterate]
  | succ k ih =>
    have hbit : ((b.setWidth 32) >>> k).getLsbD 0 = b.getLsbD k := by
      simp only [BitVec.getLsbD_ushiftRight, BitVec.getLsbD_setWidth, Nat.add_zero, Bool.and_eq_right_iff_imp, decide_eq_true_iff]
      exact fun h => (BitVec.lt_of_getLsbD h).trans (by decide)
    rw [iterate_succ', ih, crc32Bit_xor, hbit, List.range_succ, List.foldl_append, BitVec.shiftRight_add]
    rfl

theorem crc32Byte_eq (c : Word) (b : Byte) :
    crc32Byte c b = (List.range 8).foldl (fun c i => crc32Fed c (b.getLsbD i)) c := by
  have hspent : b.setWidth 32 >>> 8 = 0#32 := by bv_omega
  rw [crc32Byte, iterate_crc32Bit_xor, hspent, BitVec.xor_zero]

theorem bodyCheck_append (bytes : List Byte) (b : Byte) : ~~~ bodyCheck (bytes ++ [b]) = crc32Byte (~~~ bodyCheck bytes) b := by
  simp only [bodyCheck, List.foldl_append, List.foldl_cons, List.foldl_nil, BitVec.not_not]

/-- Settles O46: every table of entries of one width reads back, and a byte of the check is eight fed bits. -/
theorem bankImageHoldsTheWholeBank : Obligations.BankImageHoldsTheWholeBank := by
  refine ⟨fun b h => ⟨length_bankBytes b, bankOf_bankBytes h⟩, fun _ => rfl, by decide, fun bytes b => ?_, by decide +kernel⟩
  rw [bodyCheck_append, crc32Byte_eq]
  rfl

end Sys2Proof.Machine

/-! O33, O37, O38: the shadow's requests. -/

namespace Sys2Proof.Machine

/-! ### Table writes (R142 to R146) -/

/-- R142: a write in range goes into the EDITABLE shadow and is answered OK. -/
theorem Executes.written {c : Instr} {r : RequestRules} {bank : RequestFrame → State → Bank} {b : Bank} {s : State}
    {f : RequestFrame} {rest : List ReverseFrame} (h : Executes c r fun g t => (setShadowBank (bank g t) t, dataAnswer []))
    (htakes : Takes r.code f rest s) (hjudged : judgeRequest r f { s with requestQ := rest } = none)
    (hbank : bank f { s with requestQ := rest } = b) :
    exec c s = .next (answeredWith f .ok [] (setShadowBank b { s with requestQ := rest })) := by
  rw [← hbank]
  exact h.answered htakes hjudged (setShadowBank_engine _ _) rfl rfl

theorem writtenGroup_eq {p : List Byte} {g out : Fin 16} {mode : GroupMode} (hp : p = [byteOf g, mode.code, byteOf out]) (b : Bank) :
    writtenGroup p b = { b with groups := b.groups.set g { mode := mode, out := out, emit := 0 } } := by
  have hgroup : paramFin 16 p 0 = g := paramFin_of_byteOf (by decide) (by rw [hp]; rfl)
  have hout : paramFin 16 p 2 = out := paramFin_of_byteOf (by decide) (by rw [hp]; rfl)
  have hmode : groupModeOf (param p 1) = some mode := by rw [hp]; exact groupModeOf_code mode
  simp only [writtenGroup, hmode, hgroup, hout]

theorem writtenMap_eq {p : List Byte} {slot : Fin 64} {e : Option MapEntry} (hslot : param p 0 = byteOf slot)
    (he : slotOf (p.drop 1) = some e) (b : Bank) : writtenMap p b = { b with slots := b.slots.set slot e } := by
  simp only [writtenMap, he, paramFin_of_byteOf (by decide) hslot]

theorem writtenCurve_eq {p : List Byte} {i : Fin 32} {e : Option CurveDef} (hi : param p 0 = byteOf i)
    (he : curveOf (p.drop 1) = some e) (b : Bank) : writtenCurve p b = { b with curves := b.curves.set i e } := by
  simp only [writtenCurve, he, paramFin_of_byteOf (by decide) hi]

theorem length_flatMap_pointBytes (points : List Point) : (points.flatMap pointBytes).length = 4 * points.length := by
  simp only [List.length_flatMap, length_pointBytes, List.map_const', List.sum_replicate, smul_eq_mul, Nat.mul_comm]

theorem param_append_pointBytes {start : Byte} {points : List Point} {k : Nat} (hk : k < points.length) (j : Nat) (hj : j < 4) :
    param (start :: points.flatMap pointBytes) (1 + 4 * k + j) = param (pointBytes points[k]) j := by
  have hdrop : (points.flatMap pointBytes).drop (4 * k) = pointBytes points[k] ++ (points.drop (k + 1)).flatMap pointBytes := by
    rw [drop_flatMap length_pointBytes, List.drop_eq_getElem_cons hk, List.flatMap_cons]
  have hread : param (start :: points.flatMap pointBytes) (1 + 4 * k + j) = ((points.flatMap pointBytes).drop (4 * k)).getD j 0 := by
    rw [param, show 1 + 4 * k + j = (4 * k + j) + 1 by omega, List.getD_cons_succ, List.getD_eq_getElem?_getD,
      List.getD_eq_getElem?_getD, List.getElem?_drop]
  rw [hread, hdrop, List.getD_append _ _ _ _ (by rw [length_pointBytes]; exact hj)]
  rfl

/-- R146: the point that a byte list writes at an index of the pool. -/
theorem writtenPoint_eq {start : Fin 256} {points : List Point} {p : List Byte} (hp : p = byteOf start :: points.flatMap pointBytes)
    (i : Nat) : writtenPoint p i =
      if start.val ≤ i ∧ i < start.val + points.length then points[i - start.val]? else none := by
  have hstart : paramNat p 0 = start := toNat_param_byteOf (by decide) (by rw [hp]; rfl)
  have hcount : pointsCount p = points.length := by
    rw [hp, pointsCount, List.length_cons, Nat.add_sub_cancel, length_flatMap_pointBytes]
    omega
  rw [writtenPoint, hstart, hcount]
  split
  next hin =>
    have hk : i - start.val < points.length := by omega
    have hread (j : Nat) (hj : j < 4) : param p (1 + 4 * (i - start.val) + j) = param (pointBytes points[i - start.val]) j := by
      rw [hp]
      exact param_append_pointBytes hk j hj
    have hx : paramHalf p (1 + 4 * (i - start.val)) = points[i - start.val].x :=
      (congrArg₂ halfOf (hread 0 (by decide)) (hread 1 (by decide))).trans (halfOf_halfBytes _)
    have hy : paramHalf p (3 + 4 * (i - start.val)) = points[i - start.val].y := by
      rw [show 3 + 4 * (i - start.val) = 1 + 4 * (i - start.val) + 2 by omega]
      exact (congrArg₂ halfOf (hread 2 (by decide)) (hread 3 (by decide))).trans (halfOf_halfBytes _)
    rw [hx, hy, List.getElem?_eq_getElem hk]
  next => rfl

theorem writtenPoints_eq {start : Fin 256} {points : List Point} {p : List Byte} (hp : p = byteOf start :: points.flatMap pointBytes)
    (b : Bank) : writtenPoints p b = { b with points := Vector.ofFn fun i =>
      if start.val ≤ i.val ∧ i.val < start.val + points.length then points.getD (i.val - start.val) b.points[i] else b.points[i] } := by
  have hpoint (i : Fin 256) : (writtenPoint p i).getD b.points[i] =
      if start.val ≤ i.val ∧ i.val < start.val + points.length then points.getD (i.val - start.val) b.points[i] else b.points[i] := by
    rw [writtenPoint_eq hp, List.getD_eq_getElem?_getD]
    split <;> rfl
  simp only [writtenPoints, hpoint]

/-! ### The ranges of writes (R131) -/

theorem writePoints_fits {start : Fin 256} {points : List Point} {p : List Byte} (hp : p = byteOf start :: points.flatMap pointBytes)
    (h1 : 1 ≤ points.length) (h15 : points.length ≤ 15) (hfits : start.val + points.length ≤ 256) :
    pointsLength p.length = true ∧ writePointsInRange p = true := by
  have hstart : paramNat p 0 = start := toNat_param_byteOf (by decide) (by rw [hp]; rfl)
  have hlength : p.length = 1 + 4 * points.length := by
    rw [hp, List.length_cons, length_flatMap_pointBytes, Nat.add_comm]
  have hcount : pointsCount p = points.length := by
    rw [pointsCount, hlength]
    omega
  refine ⟨(pointsLength_iff _).mp ⟨points.length, h1, h15, hlength⟩, decide_eq_true ?_⟩
  rwa [hstart, hcount]

theorem writeGroup_inRange (g out : Fin 16) (mode : GroupMode) : writeGroupInRange [byteOf g, mode.code, byteOf out] = true := by
  have hg : (byteOf g).toNat = g := toNat_byteOf (by omega)
  have hout : (byteOf out).toNat = out := toNat_byteOf (by omega)
  simp [writeGroupInRange, param, paramNat, hg, hout, groupModeOf_code]

theorem writeMap_inRange {slot : Fin 64} {rest : List Byte} {e : Option MapEntry} (h : slotOf rest = some e) :
    writeMapInRange (byteOf slot :: rest) = true := by
  have hslot : (byteOf slot).toNat = slot := toNat_byteOf (by omega)
  simp [writeMapInRange, param, paramNat, hslot, h]

theorem writeCurve_inRange {i : Fin 32} {rest : List Byte} {e : Option CurveDef} (h : curveOf rest = some e) :
    writeCurveInRange (byteOf i :: rest) = true := by
  have hi : (byteOf i).toNat = i := toNat_byteOf (by omega)
  simp [writeCurveInRange, param, paramNat, hi, h]

/-- R144: an empty slot, whatever its other bytes. -/
theorem slotOf_unused (v w x y z : Byte) : slotOf [0x00, v, w, x, y, z] = some none := rfl

theorem curveOf_undefined (x y z : Byte) : curveOf [0x00, x, y, z] = some none := rfl

theorem curveOf_defined {c : CurveDef} (h : c.wellFormed) : curveOf [0x01, byteOf c.start, byteOf c.count, c.policy.code] = some (some c) :=
  curveOf_curveBytes (e := some c) fun _ heq => Option.some.inj heq ▸ h

/-- R128: a request that needs the EDITABLE shadow passes when it has it. -/
theorem judgeRequest_of_editable {r : RequestRules} {f : RequestFrame} {s : State} (hmode : s.mode = .running)
    (hshadow : s.shadow = .editable) (howner : r.owner = needsEditable) (hconditions : r.conditions = noRefusal) {p : List Byte}
    (hp : f.params = p) (hlength : r.lengthOk p.length = true) (hrange : r.inRange p = true) : judgeRequest r f s = none :=
  judgeRequest_of_running hmode (hp ▸ hlength) (hp ▸ hrange) (by rw [howner]; exact (needsEditable_eq_none _).mpr hshadow)
    (by rw [hconditions]; rfl)

/-- Settles O33. -/
theorem tableWritesChangeTheShadow : Obligations.TableWritesChangeTheShadow := by
  refine ⟨⟨rfl, rfl, rfl⟩, fun s f rest hmode hshadow => ⟨fun g out mode htakes hp => ?_, fun slot e htakes hp => ?_,
    fun slot v w x y z htakes hp => ?_, fun i c htakes hc hp => ?_, fun i x y z htakes hp => ?_,
    fun start points htakes h1 h15 hfits hp => ?_, fun htakes hp => ?_⟩⟩
  · exact Executes.written (r := writeGroupRules) (fun _ => rfl) htakes
      (judgeRequest_of_editable hmode hshadow rfl rfl hp rfl (writeGroup_inRange g out mode)) (writtenGroup_eq hp _)
  · exact Executes.written (r := writeMapRules) (fun _ => rfl) htakes
      (judgeRequest_of_editable hmode hshadow rfl rfl hp rfl (writeMap_inRange (slotOf_slotBytes (some e))))
      (writtenMap_eq (by rw [hp]; rfl) (by rw [hp]; exact slotOf_slotBytes (some e)) _)
  · exact Executes.written (r := writeMapRules) (fun _ => rfl) htakes
      (judgeRequest_of_editable hmode hshadow rfl rfl hp rfl (writeMap_inRange (slotOf_unused v w x y z)))
      (writtenMap_eq (by rw [hp]; rfl) (by rw [hp]; exact slotOf_unused v w x y z) _)
  · exact Executes.written (r := writeCurveRules) (fun _ => rfl) htakes
      (judgeRequest_of_editable hmode hshadow rfl rfl hp rfl (writeCurve_inRange (curveOf_defined hc)))
      (writtenCurve_eq (by rw [hp]; rfl) (by rw [hp]; exact curveOf_defined hc) _)
  · exact Executes.written (r := writeCurveRules) (fun _ => rfl) htakes
      (judgeRequest_of_editable hmode hshadow rfl rfl hp rfl (writeCurve_inRange (curveOf_undefined x y z)))
      (writtenCurve_eq (by rw [hp]; rfl) (by rw [hp]; exact curveOf_undefined x y z) _)
  · obtain ⟨hlength, hrange⟩ := writePoints_fits rfl h1 h15 hfits
    exact Executes.written (r := writePointsRules) (fun _ => rfl) htakes
      (judgeRequest_of_editable hmode hshadow rfl rfl hp hlength hrange) (writtenPoints_eq hp _)
  · exact Executes.written (r := clearShadowRules) (bank := fun _ _ => Bank.empty) (fun _ => rfl) htakes
      (judgeRequest_of_editable hmode hshadow rfl rfl hp rfl rfl) rfl

/-! ### A shadow in use (R49, R62) -/

theorem needsEditable_of_used (p : List Byte) {s : State} (h : s.shadow ≠ .editable) : needsEditable p s = some .busy := if_neg h

theorem or_of_some {a b : Option Result} {refusal : Result} (h : a = some refusal) : a.or b = some refusal := by
  rw [h]
  rfl

/-- R128: a request in range whose owner refuses it. -/
theorem Executes.ownerRefused {c : Instr} {r : RequestRules} {run : RequestFrame → State → State × Answer} {s : State}
    {f : RequestFrame} {rest : List ReverseFrame} {refusal : Result} (h : Executes c r run) (hmode : s.mode = .running)
    (htakes : Takes r.code f rest s) {p : List Byte} (hp : f.params = p) (hlength : r.lengthOk p.length = true)
    (hrange : r.inRange p = true) (howner : r.owner p { s with requestQ := rest } = some refusal) :
    exec c s = .next (answeredWith f refusal [] { s with requestQ := rest }) := by
  subst hp
  refine h.refused htakes ?_
  rw [judgeRequest_of_inRange (s := { s with requestQ := rest }) hlength (.inl hmode) hrange, howner]
  rfl

theorem commitMode_inRange {group : Fin 16} {mode sequence hi lo : Byte} (h : mode = 0x00 ∨ mode = 0x01) :
    (commitModeOf [mode, byteOf group, sequence, hi, lo]).isSome = true := by
  obtain rfl | rfl := h
  · rfl
  · show ((finOf 16 (byteOf group)).map _).isSome = true
    rw [finOf_byteOf (by decide)]
    rfl

theorem storeSlot_inRange (slot : Fin 4) : storeSlotInRange [byteOf slot] = true := by
  have hslot : (byteOf slot).toNat = slot := toNat_byteOf (by omega)
  simp [storeSlotInRange, param, paramNat, hslot]

theorem storeSave_fits {source : Byte} {slot : Fin 4} {label : List Byte} (hsource : source = 0x00 ∨ source = 0x01)
    (hlabel : label.length = 8) : lengthIs 10 (source :: byteOf slot :: label).length = true ∧
      storeSaveInRange (source :: byteOf slot :: label) = true := by
  have hslot : (byteOf slot).toNat = slot := toNat_byteOf (by omega)
  refine ⟨by simp [lengthIs, hlabel], ?_⟩
  obtain rfl | rfl := hsource <;> simp [storeSaveInRange, isFlag, param, paramNat, hslot]

theorem readTable_inRange {table first count : Byte} {size most : Nat} (hbounds : tableBounds table = some (size, most))
    (hfits : 1 ≤ count.toNat ∧ count.toNat ≤ most ∧ first.toNat + count.toNat ≤ size) :
    readTableInRange [0x01, table, first, count] = true := by
  show (true && readInBounds (tableBounds table) first.toNat count.toNat) = true
  rw [hbounds]
  exact decide_eq_true hfits

/-- R49: a read of a SHADOW that is being filled is refused by its owner. -/
theorem readable_of_used {r : RequestRules} {p : List Byte} {s : State} (howner : r.owner = needsReadable)
    (h : s.shadow = .loading ∨ ∃ tag, s.shadow = .copying tag) : r.owner (0x01 :: p) s = some .busy := by
  rw [howner, needsReadable]
  obtain h | ⟨tag, h⟩ := h <;> simp only [h] <;> rfl

theorem needsCommit_of_none (p : List Byte) {s : State} (hvalidating : ∀ tag, s.shadow ≠ .validating .commit tag)
    (harmed : s.shadow ≠ .armed) : needsCommit p s = some .state := by
  unfold needsCommit
  cases hshadow : s.shadow with
  | armed => exact absurd hshadow harmed
  | validating purpose tag =>
    cases purpose with
    | commit => exact absurd hshadow (hvalidating tag)
    | _ => rfl
  | _ => rfl

/-- Settles O37. -/
theorem shadowInUseAnswersBusy : Obligations.ShadowInUseAnswersBusy := by
  intro s f rest hmode busy
  refine ⟨fun hused => ?_, fun hused => ⟨?_, ?_⟩, fun hvalidating harmed htakes hp => ?_⟩
  · have hbusy {r : RequestRules} (howner : r.owner = needsEditable) (p : List Byte) :
        r.owner p { s with requestQ := rest } = some .busy := by
      rw [howner]
      exact needsEditable_of_used p hused
    refine ⟨fun g out mode htakes hp => ?_, fun slot e htakes hp => ?_, fun slot v w x y z htakes hp => ?_,
      fun i c htakes hc hp => ?_, fun i x y z htakes hp => ?_, fun start points htakes h1 h15 hfits hp => ?_,
      fun htakes hp => ?_, fun htakes hp => ?_, fun htakes hp => ?_, fun group sequence hi lo htakes hp => ?_,
      fun group sequence hi lo htakes hp => ?_, fun slot htakes hp => ?_, fun slot label htakes hlabel hp => ?_⟩
    · exact Executes.ownerRefused (r := writeGroupRules) (fun _ => rfl) hmode htakes hp rfl (writeGroup_inRange g out mode) (hbusy rfl _)
    · exact Executes.ownerRefused (r := writeMapRules) (fun _ => rfl) hmode htakes hp rfl
        (writeMap_inRange (slotOf_slotBytes (some e))) (hbusy rfl _)
    · exact Executes.ownerRefused (r := writeMapRules) (fun _ => rfl) hmode htakes hp rfl
        (writeMap_inRange (slotOf_unused v w x y z)) (hbusy rfl _)
    · exact Executes.ownerRefused (r := writeCurveRules) (fun _ => rfl) hmode htakes hp rfl
        (writeCurve_inRange (curveOf_defined hc)) (hbusy rfl _)
    · exact Executes.ownerRefused (r := writeCurveRules) (fun _ => rfl) hmode htakes hp rfl
        (writeCurve_inRange (curveOf_undefined x y z)) (hbusy rfl _)
    · obtain ⟨hlength, hrange⟩ := writePoints_fits rfl h1 h15 hfits
      exact Executes.ownerRefused (r := writePointsRules) (fun _ => rfl) hmode htakes hp hlength hrange (hbusy rfl _)
    · exact Executes.ownerRefused (r := copyActiveRules) (fun _ => rfl) hmode htakes hp rfl rfl (hbusy rfl _)
    · exact Executes.ownerRefused (r := clearShadowRules) (fun _ => rfl) hmode htakes hp rfl rfl (hbusy rfl _)
    · exact Executes.ownerRefused (r := validateRules) (fun _ => rfl) hmode htakes hp rfl rfl (hbusy rfl _)
    · exact Executes.ownerRefused (r := commitRules) (fun _ => rfl) hmode htakes hp rfl rfl (hbusy rfl _)
    · exact Executes.ownerRefused (r := commitRules) (fun _ => rfl) hmode htakes hp rfl (commitMode_inRange (.inr rfl)) (hbusy rfl _)
    · exact Executes.ownerRefused (r := storeLoadRules) (fun _ => rfl) hmode htakes hp rfl (storeSlot_inRange slot)
        (or_of_some (needsEditable_of_used (s := { s with requestQ := rest }) [] hused))
    · obtain ⟨hlength, hrange⟩ := storeSave_fits (slot := slot) (.inr rfl) hlabel
      exact Executes.ownerRefused (r := storeSaveRules) (fun _ => rfl) hmode htakes hp hlength hrange
        (or_of_some (needsEditable_of_used (s := { s with requestQ := rest }) [] hused))
  · intro table first count size most htakes hp htable h1 hmost hfits
    exact Executes.ownerRefused (r := readTableRules) (fun _ => rfl) hmode htakes hp rfl
      (readTable_inRange (tableBounds_of_mem htable) ⟨h1, hmost, hfits⟩) (readable_of_used (s := { s with requestQ := rest }) rfl hused)
  · intro i values htakes h1 h16 hp
    have hi : (byteOf i).toNat = i := toNat_byteOf (by omega)
    have hrange : evaluateInRange ([0x01, byteOf i] ++ values.flatMap halfBytes) = true := by
      simp [evaluateInRange, isFlag, param, paramNat, hi]
    refine Executes.ownerRefused (r := evaluateRules) (fun _ => rfl) hmode htakes hp ?_ hrange
      (readable_of_used (s := { s with requestQ := rest }) rfl hused)
    exact (evaluateLength_iff _).mp ⟨values.length, h1, h16, by rw [List.length_append, length_flatMap_halfBytes]; rfl⟩
  · exact Executes.ownerRefused (r := cancelCommitRules) (fun _ => rfl) hmode htakes hp rfl rfl
      (needsCommit_of_none [] hvalidating harmed)

/-! ### Bank operations (R50, R53, R55) -/

theorem commitModeOf_at (group : Fin 16) (sequence hi lo : Byte) :
    commitModeOf [0x01, byteOf group, sequence, hi, lo] = some (.atFrame group sequence) := by
  show (finOf 16 (byteOf group)).map (fun g => CommitMode.atFrame g sequence) = _
  rw [finOf_byteOf (by decide)]
  rfl

/-- R55, R56: the commit record that a COMMIT forms. -/
theorem exec_commit {s : State} {f : RequestFrame} {rest : List ReverseFrame} {mode : CommitMode} {p : List Byte}
    (htakes : Takes 0x23 f rest s) (hmode : s.mode = .running) (hshadow : s.shadow = .editable) (hp : f.params = p)
    (hlength : p.length = 5) (hcommit : commitModeOf p = some mode) :
    exec .commit s = .next (answeredWith f .accepted [] { s with
      requestQ := rest
      shadow := .validating .commit (some f.tag)
      commit := some { origin := .request, tag := some f.tag, mode := mode, timeout := paramHalf p 3, timer := false } }) := by
  subst hp
  have hrun : runCommit f { s with requestQ := rest } = ({ s with
      requestQ := rest
      shadow := .validating .commit (some f.tag)
      commit := some { origin := .request, tag := some f.tag, mode := mode, timeout := paramHalf f.params 3, timer := false } },
      plainAnswer .accepted) := by
    simp only [runCommit, hcommit]
  have hanswer := Executes.answered (r := commitRules) (run := runCommit) (c := .commit) (fun _ => rfl) htakes
    (judgeRequest_of_editable hmode hshadow rfl rfl rfl (beq_iff_eq.mpr hlength) (congrArg Option.isSome hcommit))
    (by rw [hrun]) (by rw [hrun]; rfl) (by rw [hrun]; rfl)
  rw [hanswer, hrun]
  rfl

/-- Settles O38. -/
theorem bankOperationsStart : Obligations.BankOperationsStart := by
  intro s f rest hmode hshadow accepted
  refine ⟨fun htakes hp => ?_, fun htakes hp => ?_, fun group sequence hi lo htakes hp => ?_,
    fun group sequence hi lo htakes hp => ?_⟩
  · exact Executes.answered (r := copyActiveRules) (run := runCopyActive) (fun _ => rfl) htakes
      (judgeRequest_of_editable hmode hshadow rfl rfl hp rfl rfl) rfl rfl rfl
  · exact Executes.answered (r := validateRules) (run := runValidate) (fun _ => rfl) htakes
      (judgeRequest_of_editable hmode hshadow rfl rfl hp rfl rfl) rfl rfl rfl
  · have h := exec_commit htakes hmode hshadow hp rfl (mode := .now) rfl
    exact h
  · have h := exec_commit htakes hmode hshadow hp rfl (commitModeOf_at group sequence hi lo)
    exact h

end Sys2Proof.Machine

/-! O25, O41, O42: the ends of commits, and the store's requests. -/

namespace Sys2Proof.Machine

/-! ### Ends of commits (R61, R62) -/

theorem endCommit_of_request {s : State} {r : CommitRecord} {tag : Byte} (what : Completion) (hcommit : s.commit = some r)
    (horigin : r.origin = .request) (htag : r.tag = some tag) :
    endCommit what s = raiseCompletion tag what { s with shadow := .editable, commit := none } := by
  obtain ⟨origin, kept, mode, timeout, timer⟩ := r
  cases horigin
  cases htag
  simp only [endCommit, hcommit]

theorem exec_commitTimerExpiry_of_running {s : State} {r : CommitRecord} (hrun : s.held = false) (hshadow : s.shadow = .armed)
    (hcommit : s.commit = some r) (htimer : r.timer = true) : exec .commitTimerExpiry s = .next (endCommit .commitExpired s) := by
  obtain ⟨origin, tag, mode, timeout, timer⟩ := r
  cases htimer
  refine (unlessHeld_of_running _ hrun).trans (congrArg _ ?_)
  simp only [hshadow, hcommit]

theorem exec_commitTimerExpiry_of_stopped {s : State} {r : CommitRecord} (hrun : s.held = false) (hshadow : s.shadow = .armed)
    (hcommit : s.commit = some r) (htimer : r.timer = false) : exec .commitTimerExpiry s = .next s := by
  obtain ⟨origin, tag, mode, timeout, timer⟩ := r
  cases htimer
  refine (unlessHeld_of_running _ hrun).trans (congrArg _ ?_)
  simp only [hshadow, hcommit]

/-- R62: a commit in its test or ARMED is cancelled; whether the notice comes before the answer is free. -/
theorem runCancelCommit_of_request {f : RequestFrame} {s : State} {r : CommitRecord} {tag : Byte} (hcommit : s.commit = some r)
    (horigin : r.origin = .request) (htag : r.tag = some tag) :
    let ended : State := { s with shadow := .editable, commit := none, freeCount := s.freeCount + 1 }
    runCancelCommit f s = (raiseCompletion tag .commitCancelled ended, dataAnswer []) ∨
      runCancelCommit f s = (ended, { dataAnswer [] with late := some { tag := tag, what := .commitCancelled } }) := by
  intro ended
  have hnotice : commitNotice .commitCancelled s = some { tag := tag, what := .commitCancelled } := by
    obtain ⟨origin, kept, mode, timeout, timer⟩ := r
    cases horigin
    cases htag
    simp only [commitNotice, hcommit]
  unfold runCancelCommit
  dsimp only
  split
  · exact .inl (congrArg (·, dataAnswer [])
      (endCommit_of_request (s := { s with freeCount := s.freeCount + 1 }) .commitCancelled hcommit horigin htag))
  · rw [hnotice]
    exact .inr rfl

/-- Settles O25. -/
theorem commitExpiresOrIsCancelled : Obligations.CommitExpiresOrIsCancelled := by
  refine ⟨fun s r hrun hshadow hcommit => ⟨fun tag htimer horigin htag => ?_,
    exec_commitTimerExpiry_of_stopped hrun hshadow hcommit⟩,
    fun s f rest r tag htakes hmode hparams hshadow hcommit horigin htag => ?_⟩
  · rw [exec_commitTimerExpiry_of_running hrun hshadow hcommit htimer, endCommit_of_request _ hcommit horigin htag]
  · have hexec : Executes .cancelCommit cancelCommitRules runCancelCommit := fun _ => rfl
    have hjudged : judgeRequest cancelCommitRules f { s with requestQ := rest } = none :=
      judgeRequest_of_running hmode (by rw [hparams]; rfl) rfl ((needsCommit_eq_none f.params).mpr hshadow) rfl
    obtain hrun | hrun := runCancelCommit_of_request (f := f) (s := { s with requestQ := rest }) hcommit horigin htag
    · refine .inl ?_
      rw [hexec.passed htakes hjudged hrun]
      exact congrArg _ (respond_of_idle f _ ((raiseCompletion_engine _ _ _).trans htakes.2.1) rfl rfl)
    · refine .inr ?_
      rw [hexec.passed htakes hjudged hrun]
      exact congrArg (fun t => Host.Outcome.next (raiseCompletion tag .commitCancelled t))
        (respond_of_idle f (dataAnswer []) htakes.2.1 rfl rfl)

/-! ### The store's requests start (R171, R172, R175, R178, R179) -/

theorem labelOf_eq {source slot : Byte} (label : Vector Byte 8) : labelOf (source :: slot :: label.toList) = label := by
  ext i hi
  simp [labelOf, param, List.getD_eq_getElem?_getD, Nat.add_comm 2, hi]

theorem needsSource_eq_none {p : List Byte} {s : State} (h : param p 0 = 0x00 ∨ (param p 0 = 0x01 ∧ s.shadow = .editable)) :
    needsSource p s = none := by
  unfold needsSource
  obtain h | ⟨-, h⟩ := h
  · rw [if_neg (by rw [h]; decide)]
  · rw [(needsEditable_eq_none p).mpr h, ite_self]

theorem countedGeneration_le {e : SlotEntry} {highest : Nat} (h : ∀ g, generationOf e = some g → g.toNat ≤ highest) :
    countedGeneration e ≤ highest := by
  cases e with
  | valid info => exact h _ rfl
  | damaged info => exact h _ rfl
  | empty => exact Nat.zero_le _
  | incomplete => exact Nat.zero_le _

/-- R172: the highest generation is an upper bound that a slot reaches. -/
theorem highestGeneration_eq {table : Vector SlotEntry 4} {highest : Nat}
    (hle : ∀ i : Fin 4, ∀ g, generationOf table[i] = some g → g.toNat ≤ highest)
    (hreached : highest = 0 ∨ ∃ i : Fin 4, ∃ g, generationOf table[i] = some g ∧ g.toNat = highest) :
    highestGeneration table = highest := by
  refine Nat.le_antisymm ?_ ?_
  · have h0 := countedGeneration_le (hle 0)
    have h1 := countedGeneration_le (hle 1)
    have h2 := countedGeneration_le (hle 2)
    have h3 := countedGeneration_le (hle 3)
    rw [highestGeneration, toList_four]
    simp only [List.foldl_cons, List.foldl_nil]
    omega
  · obtain rfl | ⟨i, g, hg, rfl⟩ := hreached
    · exact Nat.zero_le _
    · exact generationOf_counted hg ▸ le_highestGeneration table i

/-- R172: the state of a save that has started. -/
theorem runStoreSave_eq {f : RequestFrame} {s : State} {source : Byte} {slot : Fin 4} {label : Vector Byte 8}
    (hparams : f.params = source :: byteOf slot :: label.toList) : runStoreSave f s = ({ s with
       nv := { s.nv with slots := s.nv.slots.set slot { header := .incomplete, body := (s.nv.slots[slot]).body } }
       store := { s.store with
         op := some (.save f.tag slot (BitVec.ofNat 32 (highestGeneration s.store.table + 1)) label)
         table := s.store.table.set slot .incomplete
         buffer := some (bankBytes (if source = 0x01 then shadowBank s else activeBank s)) } }, plainAnswer .accepted) := by
  have hslot : paramFin 4 f.params 1 = slot := paramFin_of_byteOf (by decide) (by rw [hparams]; rfl)
  have hlabel : labelOf f.params = label := by rw [hparams]; exact labelOf_eq label
  have hsource : param f.params 0 = source := by rw [hparams]; rfl
  simp only [runStoreSave, hslot, hlabel, hsource]
  rfl

theorem storeSave_owner {p : List Byte} {s : State}
    (hsource : param p 0 = 0x00 ∨ (param p 0 = 0x01 ∧ s.shadow = .editable)) (hop : s.store.op = none) :
    storeSaveRules.owner p s = none := by
  show (needsSource p s).or (needsStoreIdle p s) = none
  rw [needsSource_eq_none hsource, (needsStoreIdle_eq_none p).mpr hop]
  rfl

/-- R168, R172: what a STORE_SAVE needs. -/
theorem judge_storeSave {f : RequestFrame} {s : State} {source : Byte} {slot : Fin 4} {label : Vector Byte 8}
    (hmode : s.mode = .running) (hop : s.store.op = none)
    (hparams : f.params = source :: byteOf slot :: label.toList) (hsource : source = 0x00 ∨ (source = 0x01 ∧ s.shadow = .editable))
    (hmask : s.store.view.setting.mask.getLsbD slot.val = false) (hspare : highestGeneration s.store.table ≠ 0xFFFFFFFF) :
    judgeRequest storeSaveRules f s = none := by
  have hslot : paramFin 4 f.params 1 = slot := paramFin_of_byteOf (by decide) (by rw [hparams]; rfl)
  obtain ⟨hlength, hrange⟩ := storeSave_fits (slot := slot) (hsource.imp_right And.left) (Vector.length_toList (xs := label))
  refine judgeRequest_of_running hmode (by rw [hparams]; exact hlength) (by rw [hparams]; exact hrange)
    (storeSave_owner (by rw [hparams]; exact hsource) hop) ?_
  show (needsUnprotected (paramFin 4 f.params 1) s).or (needsGeneration s) = none
  rw [hslot, needsUnprotected_eq_none.mpr hmask, needsGeneration_eq_none.mpr hspare]
  rfl

theorem needsValidSlot_eq {p : List Byte} {slot : Fin 4} (h : paramFin 4 p 0 = slot) (s : State) :
    needsValidSlot p s = match s.store.table[slot] with
      | .empty | .incomplete => some .empty
      | .damaged _ => some .checkFail
      | .valid _ => none := by
  subst h
  rfl

theorem judge_storeLoad {f : RequestFrame} {s : State} {slot : Fin 4} {info : SlotInfo} (hmode : s.mode = .running)
    (hop : s.store.op = none) (hparams : f.params = [byteOf slot]) (hshadow : s.shadow = .editable)
    (hvalid : s.store.table[slot] = .valid info) : judgeRequest storeLoadRules f s = none := by
  have hslot : paramFin 4 f.params 0 = slot := paramFin_of_byteOf (by decide) (by rw [hparams]; rfl)
  refine judgeRequest_of_running hmode (by rw [hparams]; rfl) (by rw [hparams]; exact storeSlot_inRange slot) ?_ ?_
  · show (needsEditable f.params s).or (needsStoreIdle f.params s) = none
    rw [(needsEditable_eq_none _).mpr hshadow, (needsStoreIdle_eq_none _).mpr hop]
    rfl
  · show needsValidSlot f.params s = none
    rw [needsValidSlot_eq hslot, hvalid]

theorem judge_storeErase {f : RequestFrame} {s : State} {slot : Fin 4} (hmode : s.mode = .running) (hop : s.store.op = none)
    (hparams : f.params = [byteOf slot]) (hmask : s.store.view.setting.mask.getLsbD slot.val = false) :
    judgeRequest storeEraseRules f s = none := by
  have hslot : paramFin 4 f.params 0 = slot := paramFin_of_byteOf (by decide) (by rw [hparams]; rfl)
  refine judgeRequest_of_running hmode (by rw [hparams]; rfl) (by rw [hparams]; exact storeSlot_inRange slot)
    ((needsStoreIdle_eq_none f.params).mpr hop) ?_
  show needsUnprotected (paramFin 4 f.params 0) s = none
  rw [hslot, needsUnprotected_eq_none.mpr hmask]

theorem bootSlotOf_bootByte (boot : Option (Fin 4)) : bootSlotOf (bootByte boot) = some boot := by
  cases boot with
  | none => rfl
  | some slot =>
    revert slot
    decide

theorem setBoot_inRange (boot : Option (Fin 4)) (fallback : Bool) : setBootInRange [bootByte boot, boolByte fallback] = true := by
  show ((bootSlotOf (bootByte boot)).isSome && isFlag (boolByte fallback)) = true
  rw [bootSlotOf_bootByte]
  cases fallback <;> rfl

theorem protect_inRange (mask : BitVec 4) : protectInRange [mask.setWidth 8] = true := by
  have hmask : (mask.setWidth 8).toNat < 16 := by
    rw [BitVec.toNat_setWidth]
    exact (Nat.mod_le _ _).trans_lt mask.isLt
  exact decide_eq_true hmask

theorem judge_dirWrite {r : RequestRules} {f : RequestFrame} {s : State} (hmode : s.mode = .running) (hop : s.store.op = none)
    (howner : r.owner = needsStoreIdle) (hconditions : r.conditions = noRefusal) {p : List Byte} (hparams : f.params = p)
    (hlength : r.lengthOk p.length = true) (hrange : r.inRange p = true) : judgeRequest r f s = none :=
  judgeRequest_of_running hmode (hparams ▸ hlength) (hparams ▸ hrange) (by rw [howner]; exact (needsStoreIdle_eq_none _).mpr hop)
    (by rw [hconditions]; rfl)

/-- R179: the copy not in force, and the next sequence. -/
theorem writeTarget_eq (v : DirView) : writeTarget v =
    (if v.inForce = some .copy0 then .copy1 else .copy0, if v.inForce = none then 1 else v.sequence + 1) := by
  obtain ⟨setting, inForce, sequence⟩ := v
  cases inForce with
  | none => rfl
  | some copy => cases copy <;> rfl

/-- Settles O41. -/
theorem storeOperationsStart : Obligations.StoreOperationsStart := by
  refine ⟨fun s f rest source slot label highest htakes hmode hop hparams hsource hmask hle hreached hspare => ?_,
    fun s f rest hmode hop => ⟨fun slot info htakes hparams hshadow hvalid => ?_, fun slot htakes hparams hmask => ?_,
      fun boot fallback htakes hparams => ?_, fun mask htakes hparams => ?_⟩⟩
  · obtain rfl := highestGeneration_eq hle hreached
    have hjudged := judge_storeSave (s := { s with requestQ := rest }) hmode hop hparams hsource hmask
      (show highestGeneration s.store.table ≠ 0xFFFFFFFF by omega)
    rw [Executes.answered (r := storeSaveRules) (run := runStoreSave) (fun _ => rfl) htakes hjudged rfl rfl rfl,
      runStoreSave_eq hparams]
    rfl
  · have hslot : paramFin 4 f.params 0 = slot := paramFin_of_byteOf (by decide) (by rw [hparams]; rfl)
    have hjudged := judge_storeLoad (s := { s with requestQ := rest }) hmode hop hparams hshadow hvalid
    rw [Executes.answered (r := storeLoadRules) (run := runStoreLoad) (fun _ => rfl) htakes hjudged rfl rfl rfl]
    simp only [runStoreLoad, hslot]
    rfl
  · have hslot : paramFin 4 f.params 0 = slot := paramFin_of_byteOf (by decide) (by rw [hparams]; rfl)
    have hjudged := judge_storeErase (s := { s with requestQ := rest }) hmode hop hparams hmask
    rw [Executes.answered (r := storeEraseRules) (run := runStoreErase) (fun _ => rfl) htakes hjudged rfl rfl rfl]
    simp only [runStoreErase, hslot]
    rfl
  · have hboot : (bootSlotOf (param f.params 0)).getD none = boot := by
      rw [hparams]
      exact congrArg (Option.getD · none) (bootSlotOf_bootByte boot)
    have hfallback : (param f.params 1 == 0x01) = fallback := by
      rw [hparams]
      cases fallback <;> rfl
    have hjudged := judge_dirWrite (r := storeSetBootRules) (s := { s with requestQ := rest }) hmode hop rfl rfl hparams rfl
      (setBoot_inRange boot fallback)
    rw [Executes.answered (r := storeSetBootRules) (run := runStoreSetBoot) (fun _ => rfl) htakes hjudged rfl rfl rfl]
    simp only [runStoreSetBoot, beginDirWrite, hboot, hfallback, writeTarget_eq]
    rfl
  · have hmask : (param f.params 0).setWidth 4 = mask := by
      rw [hparams]
      exact BitVec.setWidth_setWidth_of_le mask (by decide)
    have hjudged := judge_dirWrite (r := storeProtectRules) (s := { s with requestQ := rest }) hmode hop rfl rfl hparams rfl
      (protect_inRange mask)
    rw [Executes.answered (r := storeProtectRules) (run := runStoreProtect) (fun _ => rfl) htakes hjudged rfl rfl rfl]
    simp only [runStoreProtect, beginDirWrite, hmask, writeTarget_eq]
    rfl

/-! ### The store's refusals (R168) -/

theorem needsStoreIdle_of_busy (p : List Byte) {s : State} (h : s.store.op ≠ none) : needsStoreIdle p s = some .busy := by
  cases hop : s.store.op with
  | none => exact absurd hop h
  | some op => simp [needsStoreIdle, hop]

theorem needsUnprotected_of_protected {slot : Fin 4} {s : State} (h : s.store.view.setting.mask.getLsbD slot.val = true) :
    needsUnprotected slot s = some .protected_ := if_pos h

/-- R172: a slot that carries the last generation is the highest. -/
theorem needsGeneration_of_last {s : State} (h : ∃ i : Fin 4, generationOf s.store.table[i] = some 0xFFFFFFFF) :
    needsGeneration s = some .exhausted := by
  obtain ⟨i, hi⟩ := h
  have hle := le_highestGeneration s.store.table i
  have hlt := highestGeneration_lt s.store.table
  rw [generationOf_counted hi] at hle
  exact if_pos (Nat.le_antisymm (Nat.lt_succ_iff.mp hlt) hle)

/-- R168: what a STORE_SAVE in range is judged by. -/
theorem judge_storeSave_eq {f : RequestFrame} {s : State} {source : Byte} {slot : Fin 4} {label : List Byte}
    (hmode : s.mode = .running) (hlabel : label.length = 8) (hparams : f.params = source :: byteOf slot :: label)
    (hsource : source = 0x00 ∨ (source = 0x01 ∧ s.shadow = .editable)) : judgeRequest storeSaveRules f s =
      (needsStoreIdle f.params s).or ((needsUnprotected slot s).or (needsGeneration s)) := by
  have hslot : paramFin 4 f.params 1 = slot := paramFin_of_byteOf (by decide) (by rw [hparams]; rfl)
  obtain ⟨hlength, hrange⟩ := storeSave_fits (slot := slot) (hsource.imp_right And.left) hlabel
  rw [judgeRequest_of_inRange (by rw [hparams]; exact hlength) (.inl hmode) (by rw [hparams]; exact hrange)]
  show ((needsSource f.params s).or (needsStoreIdle f.params s)).or ((needsUnprotected (paramFin 4 f.params 1) s).or _) = _
  rw [hslot, needsSource_eq_none (by rw [hparams]; exact hsource)]
  rfl

theorem judge_storeLoad_eq {f : RequestFrame} {s : State} {slot : Fin 4} (hmode : s.mode = .running)
    (hparams : f.params = [byteOf slot]) (hshadow : s.shadow = .editable) :
    judgeRequest storeLoadRules f s = (needsStoreIdle f.params s).or (needsValidSlot f.params s) := by
  rw [judgeRequest_of_inRange (by rw [hparams]; rfl) (.inl hmode) (by rw [hparams]; exact storeSlot_inRange slot)]
  show ((needsEditable f.params s).or _).or _ = _
  rw [(needsEditable_eq_none f.params).mpr hshadow]
  rfl

theorem judge_storeErase_eq {f : RequestFrame} {s : State} {slot : Fin 4} (hmode : s.mode = .running)
    (hparams : f.params = [byteOf slot]) :
    judgeRequest storeEraseRules f s = (needsStoreIdle f.params s).or (needsUnprotected slot s) := by
  have hslot : paramFin 4 f.params 0 = slot := paramFin_of_byteOf (by decide) (by rw [hparams]; rfl)
  rw [judgeRequest_of_inRange (by rw [hparams]; rfl) (.inl hmode) (by rw [hparams]; exact storeSlot_inRange slot), ← hslot]
  rfl

theorem or_of_none {a b : Option Result} (h : a = none) : a.or b = b := by
  rw [h]
  rfl

/-- Settles O42: each clause by the first condition that fails. -/
theorem storeConditionsRefuse : Obligations.StoreConditionsRefuse := by
  intro s f rest hmode refused
  have hidle (hop : s.store.op = none) : needsStoreIdle f.params { s with requestQ := rest } = none :=
    (needsStoreIdle_eq_none f.params).mpr hop
  have hbusy (hop : s.store.op ≠ none) : needsStoreIdle f.params { s with requestQ := rest } = some .busy :=
    needsStoreIdle_of_busy f.params hop
  refine ⟨fun source slot label htakes hlabel hparams hsource => ?_, fun slot htakes hparams hshadow => ?_,
    fun slot htakes hparams => ?_, fun hop => ⟨fun boot fallback htakes hparams => ?_, fun mask htakes hparams => ?_⟩⟩
  · have hrefuse {r : Result} (h : _ = some r) := Executes.refused (r := storeSaveRules) (run := runStoreSave) (c := .storeSave)
      (fun _ => rfl) htakes ((judge_storeSave_eq (s := { s with requestQ := rest }) hmode hlabel hparams hsource).trans h)
    exact ⟨fun hop => hrefuse (or_of_some (hbusy hop)),
      fun hop hmask => hrefuse ((or_of_none (hidle hop)).trans (or_of_some (needsUnprotected_of_protected hmask))),
      fun hop hmask hlast => hrefuse ((or_of_none (hidle hop)).trans ((or_of_none (needsUnprotected_eq_none.mpr hmask)).trans
        (needsGeneration_of_last hlast)))⟩
  · have hslot : paramFin 4 f.params 0 = slot := paramFin_of_byteOf (by decide) (by rw [hparams]; rfl)
    have hentry := needsValidSlot_eq hslot { s with requestQ := rest }
    have hrefuse {r : Result} (h : _ = some r) := Executes.refused (r := storeLoadRules) (run := runStoreLoad) (c := .storeLoad)
      (fun _ => rfl) htakes ((judge_storeLoad_eq (s := { s with requestQ := rest }) hmode hparams hshadow).trans h)
    refine ⟨fun hop => hrefuse (or_of_some (hbusy hop)), fun hop hunused => hrefuse ((or_of_none (hidle hop)).trans ?_),
      fun info hop hdamaged => hrefuse ((or_of_none (hidle hop)).trans ?_)⟩
    · obtain hunused | hunused := hunused <;> rw [hentry, hunused]
    · rw [hentry, hdamaged]
  · have hrefuse {r : Result} (h : _ = some r) := Executes.refused (r := storeEraseRules) (run := runStoreErase) (c := .storeErase)
      (fun _ => rfl) htakes ((judge_storeErase_eq (s := { s with requestQ := rest }) hmode hparams).trans h)
    exact ⟨fun hop => hrefuse (or_of_some (hbusy hop)),
      fun hop hmask => hrefuse ((or_of_none (hidle hop)).trans (needsUnprotected_of_protected hmask))⟩
  · exact Executes.ownerRefused (r := storeSetBootRules) (fun _ => rfl) hmode htakes hparams rfl (setBoot_inRange boot fallback)
      (needsStoreIdle_of_busy [] hop)
  · exact Executes.ownerRefused (r := storeProtectRules) (fun _ => rfl) hmode htakes hparams rfl (protect_inRange mask)
      (needsStoreIdle_of_busy [] hop)

end Sys2Proof.Machine

/-! O39, O40, O50: notices formed and raised, and the tests of commits. -/

namespace Sys2Proof.Machine

/-! ### The order of pending notices (R158) -/

theorem isPending_completion {n : NoticeUnit} {k : CompletionKind} :
    n.isPending (.completion k) = false ↔ (n.completions[k.index]).pending = none := by
  rw [NoticeUnit.isPending, isSome_eq_false_iff]

theorem isPending_unsolicited {n : NoticeUnit} {k : UnsolicitedKind} :
    n.isPending (.unsolicited k) = true ↔ n.outstanding k = .pending := by
  rw [NoticeUnit.isPending, beq_iff_eq]

theorem isPending_unsolicited_false {n : NoticeUnit} {k : UnsolicitedKind} :
    n.isPending (.unsolicited k) = false ↔ n.outstanding k ≠ .pending := by
  rw [ne_eq, ← isPending_unsolicited, Bool.not_eq_true]

/-- R158: the kinds of completion in their order. -/
theorem firstPending_of_completion {n : NoticeUnit} {k : CompletionKind} (hk : (n.completions[k.index]).pending.isSome = true)
    (hearlier : ∀ i : Fin 7, i < k.index → (n.completions[i]).pending = none) : n.firstPending = some (.completion k) := by
  have hpending : n.isPending (.completion k) = true := hk
  have hbefore (j : CompletionKind) (hj : j.index < k.index) : n.isPending (.completion j) = false :=
    isPending_completion.mpr (hearlier _ hj)
  cases k <;> simp (disch := decide) [NoticeUnit.firstPending, noticeOrder, hpending, hbefore]

/-- R158: an unsolicited kind follows every completion and the kinds before it. -/
theorem firstPending_of_unsolicited {n : NoticeUnit} {k : UnsolicitedKind} (hnone : ∀ i : Fin 7, (n.completions[i]).pending = none)
    (hk : n.outstanding k = .pending) (hearlier : ∀ j : UnsolicitedKind, j.bit < k.bit → n.outstanding j ≠ .pending) :
    n.firstPending = some (.unsolicited k) := by
  have hpending : n.isPending (.unsolicited k) = true := isPending_unsolicited.mpr hk
  have hcompletion (j : CompletionKind) : n.isPending (.completion j) = false := isPending_completion.mpr (hnone _)
  have hbefore (j : UnsolicitedKind) (hj : j.bit < k.bit) : n.isPending (.unsolicited j) = false :=
    isPending_unsolicited_false.mpr (hearlier j hj)
  cases k <;> simp (disch := decide) [NoticeUnit.firstPending, noticeOrder, hpending, hcompletion, hbefore]

theorem exists_index_eq (i : Fin 7) : ∃ k : CompletionKind, k.index = i := by
  match i with
  | 0 => exact ⟨.copyDone, rfl⟩
  | 1 => exact ⟨.validateDone, rfl⟩
  | 2 => exact ⟨.commitDone, rfl⟩
  | 3 => exact ⟨.loadDone, rfl⟩
  | 4 => exact ⟨.saveDone, rfl⟩
  | 5 => exact ⟨.eraseDone, rfl⟩
  | 6 => exact ⟨.directoryDone, rfl⟩

theorem firstPending_eq_none_iff (n : NoticeUnit) : n.firstPending = none ↔
    (∀ i : Fin 7, (n.completions[i]).pending = none) ∧ n.bootDone ≠ .pending ∧ n.overrun ≠ .pending ∧ n.sequence ≠ .pending := by
  rw [firstPending_eq_none]
  constructor
  · intro h
    refine ⟨fun i => ?_, isPending_unsolicited_false.mp (h (.unsolicited .bootDone)),
      isPending_unsolicited_false.mp (h (.unsolicited .overrun)), isPending_unsolicited_false.mp (h (.unsolicited .sequence))⟩
    obtain ⟨k, rfl⟩ := exists_index_eq i
    exact isPending_completion.mp (h (.completion k))
  · rintro ⟨hcompletions, hboot, hoverrun, hsequence⟩ (k | k)
    · exact isPending_completion.mpr (hcompletions _)
    · cases k
      · exact isPending_unsolicited_false.mpr hboot
      · exact isPending_unsolicited_false.mpr hoverrun
      · exact isPending_unsolicited_false.mpr hsequence

theorem exec_noticeFormed {s : State} (hrun : s.held = false) : exec .noticeFormed s = .next (offerNotice s) :=
  unlessHeld_of_running _ hrun

/-- R151, R157: a pending completion is formed, and its follower becomes pending. -/
theorem formCompletion_eq {s : State} {k : CompletionKind} {n : CompletionNotice}
    (h : (s.notices.completions[k.index]).pending = some n) : formCompletion k s = noticed n.tag k.code n.what.data { s with
      notices := { s.notices with
        completions := s.notices.completions.set k.index
          { pending := (s.notices.completions[k.index]).follower, follower := none } } } := by
  simp only [formCompletion, h]
  rfl

theorem formUnsolicited_bootDone {s : State} {o : BootOutcome} (h : s.notices.bootOutcome = some o) :
    formUnsolicited .bootDone s =
      noticed 0 0x01 o.data { s with notices := { s.notices with bootDone := .queued, bootOutcome := none } } := by
  have hdata : unsolicitedData s .bootDone = o.data := by
    rw [unsolicitedData, h]
    rfl
  rw [formUnsolicited, hdata]
  rfl

/-- Settles O50. -/
theorem firstPendingNoticeTakesThePlace : Obligations.FirstPendingNoticeTakesThePlace := by
  refine ⟨fun k => by cases k <;> rfl, fun s hrun => ⟨fun k n hroom hpending hearlier => ?_, fun o hroom hnone hboot houtcome => ?_,
    fun hroom hnone hboot hoverrun => ?_, fun hroom hnone hboot hoverrun hsequence => ?_, firstPending_eq_none_iff _,
    fun h => ?_⟩⟩ <;> rw [exec_noticeFormed hrun]
  · rw [offerNotice_of_room hroom (firstPending_of_completion (by rw [hpending]; rfl) hearlier)]
    exact congrArg _ (formCompletion_eq hpending)
  · rw [offerNotice_of_room hroom (firstPending_of_unsolicited (k := .bootDone) hnone hboot fun j hj => absurd hj (Nat.not_lt_zero _))]
    refine congrArg _ ((formUnsolicited_bootDone houtcome).trans ?_)
    cases o <;> rfl
  · rw [offerNotice_of_room hroom (firstPending_of_unsolicited (k := .overrun) hnone hoverrun ?_)]
    · rfl
    · intro j hj
      cases j
      · exact hboot
      all_goals exact absurd hj (by decide)
  · rw [offerNotice_of_room hroom (firstPending_of_unsolicited (k := .sequence) hnone hsequence ?_)]
    · rfl
    · intro j hj
      cases j
      · exact hboot
      · exact hoverrun
      · exact absurd hj (by decide)
  · obtain hfull | hnone := h
    · rw [offerNotice_of_full hfull]
    · rw [offerNotice_of_none hnone]

/-! ### Completions that are raised (R151, R158) -/

theorem raiseCompletion_of_unraised {s : State} {tag : Byte} {what : Completion}
    (hpending : (s.notices.completions[what.kind.index]).pending = none)
    (hfollower : (s.notices.completions[what.kind.index]).follower = none) :
    raiseCompletion tag what s = offerNotice { s with notices := { s.notices with
      completions := s.notices.completions.set what.kind.index
        { pending := some { tag := tag, what := what }, follower := none } } } := by
  rw [← hfollower]
  simp only [raiseCompletion, hpending]

theorem raiseCompletion_of_raised {s : State} {tag : Byte} {what : Completion} {earlier : CompletionNotice}
    (hpending : (s.notices.completions[what.kind.index]).pending = some earlier) :
    raiseCompletion tag what s = { s with notices := { s.notices with
      completions := s.notices.completions.set what.kind.index
        { pending := some earlier, follower := some { tag := tag, what := what } } } } := by
  rw [← hpending]
  simp only [raiseCompletion, hpending]

/-- R76, R86: the code and the data of each completion. -/
theorem completion_code_data (what : Completion) : (what.kind.code, what.data) =
    match what with
    | .copyDone => ((0x10 : Byte), [(0x00 : Byte)])
    | .validateDone none => (0x11, [0x00, 0x00, 0x00])
    | .validateDone (some fault) => (0x11, [0x01, fault.kind.code, byteOf fault.index])
    | .commitSwapped bank => (0x12, [0x00, if bank = .a then 0x00 else 0x01, 0x00, 0x00])
    | .commitInvalid fault => (0x12, [0x01, 0x00, fault.kind.code, byteOf fault.index])
    | .commitExpired => (0x12, [0x02, 0x00, 0x00, 0x00])
    | .commitCancelled => (0x12, [0x03, 0x00, 0x00, 0x00])
    | .loadDone result slot => (0x20, [result.code, byteOf slot])
    | .saveDone (some generation) slot => (0x21, [0x00, byteOf slot] ++ wordBytes generation)
    | .saveDone none slot => (0x21, [0x0C, byteOf slot, 0x00, 0x00, 0x00, 0x00])
    | .eraseDone result slot => (0x22, [result.code, byteOf slot])
    | .directoryDone result d =>
      (0x23, [result.code, (match d.boot with
          | some slot => byteOf slot
          | none => 0xFF),
        if d.fallback = true then 0x01 else 0x00, d.mask.setWidth 8]) := by
  cases what with
  | validateDone fault => cases fault <;> rfl
  | commitSwapped bank => cases bank <;> rfl
  | saveDone generation slot => cases generation <;> rfl
  | directoryDone result d =>
    obtain ⟨boot, fallback, mask⟩ := d
    cases boot <;> rfl
  | _ => rfl

theorem exec_copyComplete {s : State} {tag : Byte} (hrun : s.held = false) (hshadow : s.shadow = .copying tag) :
    exec .copyComplete s =
      .next (raiseCompletion tag .copyDone { setShadowBank (activeBank s) s with shadow := .editable }) := by
  refine (unlessHeld_of_running _ hrun).trans (congrArg _ ?_)
  rw [hshadow]

theorem exec_testComplete_of_validate {s : State} {tag : Option Byte} (hrun : s.held = false)
    (hshadow : s.shadow = .validating .validate tag) : exec .testComplete s = .next (endValidate tag s) := by
  refine (unlessHeld_of_running _ hrun).trans (congrArg _ ?_)
  rw [hshadow]

/-- Settles O39. -/
theorem copyAndValidateComplete : Obligations.CopyAndValidateComplete := by
  refine ⟨fun s tag hrun => ⟨exec_copyComplete hrun, fun hshadow => ⟨fun hpassed => ?_, fun fault hfailed => ?_⟩⟩,
    fun s tag what => ⟨fun hroom hquiet => raiseCompletion_of_quiet tag what hroom hquiet, fun hpending hfollower =>
      ⟨fun hfull => ?_, fun hrun => ?_⟩, fun earlier hpending _ => raiseCompletion_of_raised hpending⟩,
    fun what => ?_, rfl, rfl⟩
  · rw [exec_testComplete_of_validate hrun hshadow]
    simp only [endValidate, hpassed]
    rfl
  · rw [exec_testComplete_of_validate hrun hshadow]
    simp only [endValidate, hfailed]
    rfl
  · rw [raiseCompletion_of_full tag what hfull hpending, hfollower]
  · refine (exec_noticeFormed ?_).trans (congrArg _ (raiseCompletion_of_unraised hpending hfollower).symm)
    exact hrun
  · exact completion_code_data what

/-! ### The test of a commit (R57, R58, R61) -/

theorem arm_eq {s : State} {r : CommitRecord} (hcommit : s.commit = some r) : arm s =
    { setShadowBank (recordEmits (shadowBank s)) s with
      shadow := .armed, commit := some { r with timer := decide (r.timeout ≠ 0) } } := by
  rw [arm, hcommit]
  rfl

/-- R58: a commit that does not find its frame boundary stays ARMED. -/
theorem swapIfIdle_of_later {s : State} (h : (∀ r, s.commit = some r → r.mode ≠ .now) ∨ s.stage ≠ .idle) : swapIfIdle s = s := by
  unfold swapIfIdle
  split
  next hidle =>
    obtain h | h := h
    · exact betweenFrames_of_later fun _ => h
    · exact absurd hidle h
  next => rfl

theorem swapIfIdle_of_idle {s : State} (h : s.stage = .idle) : swapIfIdle s = betweenFrames s := by
  rw [swapIfIdle, h]

/-- R60: the effects of a swap do not read the shadow's state and the commit record. -/
theorem afterSwap_arm {s : State} {r : CommitRecord} (hcommit : s.commit = some r) :
    afterSwap (arm s) = afterSwap (setShadowBank (recordEmits (shadowBank s)) s) := by
  rw [arm_eq hcommit]
  rfl

theorem exec_testComplete_of_commit {s : State} {t : Option Byte} (hrun : s.held = false) (hshadow : s.shadow = .validating .commit t) :
    (∀ fault, testBank (shadowBank s) = some fault → exec .testComplete s = .next (endCommit (.commitInvalid fault) s)) ∧
      (testBank (shadowBank s) = none → exec .testComplete s = .next (swapIfIdle (arm s))) := by
  refine ⟨fun fault htest => ?_, fun htest => ?_⟩ <;> refine (unlessHeld_of_running _ hrun).trans (congrArg _ ?_) <;>
    simp only [hshadow, htest]

/-- Settles O40. -/
theorem commitTestCompletes : Obligations.CommitTestCompletes := by
  intro s t r hrun hshadow hcommit
  obtain ⟨hfailed, hpassed⟩ := exec_testComplete_of_commit hrun hshadow
  refine ⟨fun fault tag hfault horigin htag => ?_, fun hnone => ?_⟩
  · rw [hfailed fault hfault, endCommit_of_request _ hcommit horigin htag]
  · refine ⟨fun hlater => ?_, fun tag hmode hstage horigin htag => ?_⟩
    · rw [hpassed hnone, swapIfIdle_of_later, arm_eq hcommit]
      rw [arm_eq hcommit]
      exact hlater.imp (fun h r' hr' => Option.some.inj hr' ▸ h) fun h => (setShadowBank_stage _ _).symm ▸ h
    · have harm : (arm s).commit = some { r with timer := decide (r.timeout ≠ 0) } := by rw [arm_eq hcommit]
      have hactive : (arm s).active = s.active := setShadowBank_active _ _
      rw [hpassed hnone, swapIfIdle_of_idle (s := arm s) ((setShadowBank_stage _ _).trans hstage),
        betweenFrames_of_request rfl harm hmode horigin htag, hactive, afterSwap_arm hcommit]

end Sys2Proof.Machine

/-! O43, O44, O45: the ends of store operations. -/

namespace Sys2Proof.Machine

/-! ### Save and erase (R173, R174, R178) -/

theorem exec_saveComplete {s : State} {tag : Byte} {slot : Fin 4} {generation : Word} {label : Vector Byte 8} (readsBack : Bool)
    (hrun : s.held = false) (hop : s.store.op = some (.save tag slot generation label)) : exec (.saveComplete readsBack) s =
      .next (if readsBack then commitSave tag slot generation label s else failSave tag slot s) := by
  refine (unlessHeld_of_running _ hrun).trans (congrArg _ ?_)
  rw [hop]

theorem exec_eraseComplete {s : State} {tag : Byte} {slot : Fin 4} (readsErased : Bool) (hrun : s.held = false)
    (hop : s.store.op = some (.erase tag slot)) : exec (.eraseComplete readsErased) s =
      .next (if readsErased then finishErase tag slot s else failErase tag slot s) := by
  refine (unlessHeld_of_running _ hrun).trans (congrArg _ ?_)
  rw [hop]

/-- R173: the header is committed over the image that the buffer holds. -/
theorem commitSave_eq {s : State} {tag : Byte} {slot : Fin 4} {generation : Word} {label : Vector Byte 8} {image : List Byte}
    (hbuffer : s.store.buffer = some image) : commitSave tag slot generation label s =
      raiseCompletion tag (.saveDone (some generation) slot) { s with
        nv := { s.nv with slots := s.nv.slots.set slot {
          header := .valid { generation := generation, label := label, length := 1584 } (bodyCheck image), body := some image } }
        store := { s.store with
          op := none, table := s.store.table.set slot (.valid { generation := generation, label := label, length := 1584 }) } } := by
  simp only [commitSave, hbuffer, Option.getD_some, storeIdle, setEntry, setNvSlot, NvStore.setSlot]

/-- Settles O43. -/
theorem saveAndEraseComplete : Obligations.SaveAndEraseComplete := by
  refine ⟨fun s tag slot generation label image hrun hop hbuffer => ⟨?_, Config.bodyLeft s.freeCount, ?_⟩,
    fun s tag slot hrun hop => ⟨?_, Config.bodyLeft s.freeCount, ?_⟩⟩
  · rw [exec_saveComplete true hrun hop]
    exact congrArg _ (commitSave_eq hbuffer)
  · rw [exec_saveComplete false hrun hop]
    rfl
  · rw [exec_eraseComplete true hrun hop]
    rfl
  · rw [exec_eraseComplete false hrun hop]
    rfl

/-! ### Load (R176, R177) -/

theorem exec_loadComplete_of_bank {s : State} {tag : Option Byte} {slot : Fin 4} {read : BodyRead} {b : Bank} (hrun : s.held = false)
    (hop : s.store.op = some (.load tag slot)) (hbank : loadedBank (withBodyRead slot read s).nv.slots[slot] = some b) :
    exec (.loadComplete read) s = .next (deliverLoad tag slot b (withBodyRead slot read s)) := by
  refine (unlessHeld_of_running _ hrun).trans (congrArg _ ?_)
  rw [hop]
  dsimp only
  rw [hbank]

theorem exec_loadComplete_of_none {s : State} {tag : Option Byte} {slot : Fin 4} {read : BodyRead} (hrun : s.held = false)
    (hop : s.store.op = some (.load tag slot)) (hbank : loadedBank (withBodyRead slot read s).nv.slots[slot] = none) :
    exec (.loadComplete read) s = .next (failLoad tag slot (withBodyRead slot read s)) := by
  refine (unlessHeld_of_running _ hrun).trans (congrArg _ ?_)
  rw [hop]
  dsimp only
  rw [hbank]

theorem loadedBank_eq (info : SlotInfo) (crc : Word) (body : List Byte) :
    loadedBank { header := .valid info crc, body := some body } = if bodyCheck body = crc then bankOf body else none := rfl

theorem endLoad_eq {s : State} {slot : Fin 4} {header : Header} {body : Option (List Byte)}
    (hslot : s.nv.slots[slot] = { header := header, body := body }) :
    endLoad slot s = { s with shadow := .editable, store := { s.store with op := none, buffer := body } } := by
  rw [endLoad, hslot]

/-- R176: a body that matches its CRC and is the image of a bank is delivered. -/
theorem exec_loadComplete_of_match {s : State} {tag : Option Byte} {slot : Fin 4} {info : SlotInfo} {crc : Word} {body : List Byte}
    {b : Bank} (hrun : s.held = false) (hop : s.store.op = some (.load tag slot))
    (hslot : s.nv.slots[slot] = { header := .valid info crc, body := some body }) (hb : b.wellFormed) (hbody : body = bankBytes b)
    (hcrc : bodyCheck body = crc) : exec (.loadComplete .asStored) s = .next (deliverLoad tag slot b s) := by
  refine exec_loadComplete_of_bank hrun hop ?_
  show loadedBank s.nv.slots[slot] = some b
  rw [hslot, loadedBank_eq, if_pos hcrc, hbody, bankOf_bankBytes hb]

/-- R176: a body that does not match its CRC fails its load. -/
theorem exec_loadComplete_of_mismatch {s : State} {tag : Option Byte} {slot : Fin 4} {info : SlotInfo} {crc : Word}
    {body : List Byte} (hrun : s.held = false) (hop : s.store.op = some (.load tag slot))
    (hslot : s.nv.slots[slot] = { header := .valid info crc, body := some body }) (hcrc : bodyCheck body ≠ crc) :
    exec (.loadComplete .asStored) s = .next (failLoad tag slot s) := by
  refine exec_loadComplete_of_none hrun hop ?_
  show loadedBank s.nv.slots[slot] = none
  rw [hslot, loadedBank_eq, if_neg hcrc]

/-- R163, R176: the slot of a failed load is DAMAGED and keeps its info. -/
theorem setEntry_damaged {s : State} {slot : Fin 4} {info : SlotInfo} {header : Header} {body : Option (List Byte)}
    (hslot : s.nv.slots[slot] = { header := header, body := body }) (hentry : s.store.table[slot] = .valid info) :
    setEntry slot (damagedEntry s.store.table[slot]) (endLoad slot s) = { s with
      shadow := .editable
      store := { s.store with op := none, buffer := body, table := s.store.table.set slot (.damaged info) } } := by
  rw [endLoad_eq hslot, hentry]
  rfl

/-- R160: a read that finds other bytes is a read of a store that holds them. -/
theorem exec_loadComplete_changed {s : State} {tag : Option Byte} {slot : Fin 4} {info : SlotInfo} {crc : Word}
    {body : Option (List Byte)} (hrun : s.held = false) (hop : s.store.op = some (.load tag slot))
    (hslot : s.nv.slots[slot] = { header := .valid info crc, body := body }) (bytes : List Byte) :
    exec (.loadComplete (.changed bytes)) s = exec (.loadComplete .asStored)
      { s with nv := { s.nv with slots := s.nv.slots.set slot { header := .valid info crc, body := some bytes } } } := by
  have hfound : withBodyRead slot (.changed bytes) s =
      { s with nv := { s.nv with slots := s.nv.slots.set slot { header := .valid info crc, body := some bytes } } } := by
    rw [withBodyRead, hslot]
    rfl
  cases hbank : loadedBank (withBodyRead slot (.changed bytes) s).nv.slots[slot] with
  | some b =>
    rw [exec_loadComplete_of_bank hrun hop hbank]
    rw [hfound] at hbank ⊢
    refine (exec_loadComplete_of_bank (read := .asStored) ?_ ?_ hbank).symm
    · exact hrun
    · exact hop
  | none =>
    rw [exec_loadComplete_of_none hrun hop hbank]
    rw [hfound] at hbank ⊢
    refine (exec_loadComplete_of_none (read := .asStored) ?_ ?_ hbank).symm
    · exact hrun
    · exact hop

/-- Settles O44. -/
theorem loadCompletes : Obligations.LoadCompletes := by
  intro s tag slot info crc body hrun hop hslot hentry
  refine ⟨fun b hb hbody hcrc => ?_, fun hcrc => ?_, exec_loadComplete_changed hrun hop hslot⟩
  · rw [exec_loadComplete_of_match hrun hop hslot hb hbody hcrc, deliverLoad, endLoad_eq hslot]
  · rw [exec_loadComplete_of_mismatch hrun hop hslot hcrc, failLoad, setEntry_damaged hslot hentry]

/-! ### Directory writes (R161, R180) -/

theorem exec_directoryWriteComplete {s : State} {tag : Byte} {d : DirSetting} {target : CopyName} {sequence : Half}
    (readBack : DirReadBack) (hrun : s.held = false) (hop : s.store.op = some (.dirWrite tag d target sequence)) :
    exec (.directoryWriteComplete readBack) s = .next (match readBack with
      | .same => finishDirWrite tag d target sequence s
      | .differs left => failDirWrite tag target left s) := by
  refine (unlessHeld_of_running _ hrun).trans (congrArg _ ?_)
  rw [hop] <;> cases readBack <;> rfl

/-- R161: the sequence after a sequence is newer, and is not followed by it. -/
theorem newer_succ (sequence : Half) : newer (sequence + 1) sequence = true ∧ newer sequence (sequence + 1) = false := by
  refine ⟨decide_eq_true ?_, decide_eq_false ?_⟩ <;> bv_omega

theorem directoryInForce_of_both {nv : NvStore} {d0 d1 : DirSetting} (h0 : copySetting nv.copy0 = some d0)
    (h1 : copySetting nv.copy1 = some d1) : directoryInForce nv =
      if newer nv.copy1.sequence nv.copy0.sequence = true then
        { setting := d1, inForce := some .copy1, sequence := nv.copy1.sequence }
      else { setting := d0, inForce := some .copy0, sequence := nv.copy0.sequence } := by
  simp only [directoryInForce, h0, h1]

theorem directoryInForce_of_copy0 {nv : NvStore} {d : DirSetting} (h0 : copySetting nv.copy0 = some d)
    (h1 : copySetting nv.copy1 = none) :
    directoryInForce nv = { setting := d, inForce := some .copy0, sequence := nv.copy0.sequence } := by
  simp only [directoryInForce, h0, h1]

theorem directoryInForce_of_copy1 {nv : NvStore} {d : DirSetting} (h0 : copySetting nv.copy0 = none)
    (h1 : copySetting nv.copy1 = some d) :
    directoryInForce nv = { setting := d, inForce := some .copy1, sequence := nv.copy1.sequence } := by
  simp only [directoryInForce, h0, h1]

theorem directoryInForce_of_none {nv : NvStore} (h0 : copySetting nv.copy0 = none) (h1 : copySetting nv.copy1 = none) :
    directoryInForce nv = DirView.none := by
  simp only [directoryInForce, h0, h1]

theorem copySetting_of_invalid {c : DirCopy}
    (h : c.check ≠ dirCheck c ∨ 16 ≤ c.mask.toNat ∨ (4 ≤ c.boot.toNat ∧ c.boot ≠ 0xFF)) : copySetting c = none := by
  unfold copySetting
  split
  next hvalid =>
    rw [bootSlotOf_eq_none.mpr ((h.resolve_left fun hcheck => hcheck hvalid.1).resolve_left (Nat.not_le.mpr hvalid.2))]
    rfl
  next => rfl

theorem copySetting_of_valid {c : DirCopy} {boot : Option (Fin 4)} {mask : BitVec 4} (hcheck : c.check = dirCheck c)
    (hmask : c.mask = mask.setWidth 8) (hboot : c.boot = bootByte boot) :
    copySetting c = some { boot := boot, fallback := c.fallback, mask := mask } := by
  have hrange : c.mask.toNat < 16 := by
    rw [hmask, BitVec.toNat_setWidth]
    exact (Nat.mod_le _ _).trans_lt mask.isLt
  have hwidth : c.mask.setWidth 4 = mask := by
    rw [hmask]
    exact BitVec.setWidth_setWidth_of_le mask (by decide)
  rw [copySetting, if_pos ⟨hcheck, hrange⟩, hboot, bootSlotOf_bootByte, hwidth]
  rfl

/-- Settles O45. -/
theorem directoryWriteCompletes : Obligations.DirectoryWriteCompletes := by
  refine ⟨fun s tag d target sequence hrun hop => ⟨⟨s.nv.setCopy target (writtenCopy d sequence), ?_, ?_, ?_, ?_⟩,
      fun left => ⟨s.nv.setCopy target left, ?_, ?_, ?_, ?_⟩⟩,
    fun nv d d' sequence => ⟨fun h0 h1 => ?_, fun h1 h0 => ?_, fun h0 h1 => ?_, fun h0 h1 => ?_⟩,
    fun nv d0 d1 => ⟨fun h0 h1 => ?_, directoryInForce_of_copy0, directoryInForce_of_copy1, fun h0 h1 => ?_⟩,
    fun c => ⟨copySetting_of_invalid, fun boot mask hcheck hmask hboot => copySetting_of_valid hcheck hmask ?_⟩⟩
  · exact exec_directoryWriteComplete .same hrun hop
  · cases target <;> rfl
  · rintro rfl
    exact ⟨copySetting_writtenCopy d sequence, rfl, rfl⟩
  · rintro rfl
    exact ⟨copySetting_writtenCopy d sequence, rfl, rfl⟩
  · exact exec_directoryWriteComplete (.differs left) hrun hop
  · cases target <;> rfl
  · rintro rfl
    rfl
  · rintro rfl
    rfl
  · rw [directoryInForce_of_both (by rw [h0]; exact copySetting_writtenCopy _ _) (by rw [h1]; exact copySetting_writtenCopy _ _), h0, h1]
    exact if_neg (Bool.eq_false_iff.mp (newer_succ sequence).2)
  · rw [directoryInForce_of_both (by rw [h0]; exact copySetting_writtenCopy _ _) (by rw [h1]; exact copySetting_writtenCopy _ _), h0, h1]
    exact if_pos (newer_succ sequence).1
  · rw [directoryInForce_of_copy0 (by rw [h0]; exact copySetting_writtenCopy _ _) h1, h0]
    rfl
  · rw [directoryInForce_of_copy1 h0 (by rw [h1]; exact copySetting_writtenCopy _ _), h1]
    rfl
  · rw [directoryInForce_of_both h0 h1]
    exact if_congr decide_eq_true_iff rfl rfl
  · rw [directoryInForce_of_none h0 h1]
    exact ⟨rfl, rfl⟩
  · rw [hboot]
    cases boot <;> rfl

end Sys2Proof.Machine

/-! O47, O49: scans and the boot. -/

namespace Sys2Proof.Machine

/-! ### Scans (R160, R182, R188, R196) -/

theorem exec_scanComplete {s : State} (hrun : s.held = false) (hop : s.store.op = some .scan) : exec .scanComplete s =
    .next (if s.boot = none then reportBoot .kept (scanned s) else chooseCandidate (scanned s)) := by
  refine (unlessHeld_of_running _ hrun).trans (congrArg _ ?_)
  rw [hop]
  dsimp only
  cases hboot : s.boot <;> simp

/-- R192: how a boot ends without a candidate. -/
theorem endBootEmpty_of_disabled {s : State} (hmask : s.notices.mask.getLsbD 0 = false) : endBootEmpty s =
    { setShadowBank Bank.empty s with shadow := .editable, mode := .running, boot := none } := by
  obtain ⟨bankA, bankB, h⟩ := setShadowBank_eq Bank.empty s
  rw [endBootEmpty, h]
  exact reportBoot_of_disabled _ hmask

theorem endBootEmpty_of_roomy {s : State} (hmask : s.notices.mask.getLsbD 0 = true) (hroomy : Roomy s) : endBootEmpty s =
    noticed 0 0x01 [0x01, 0xFF, 0x00, 0x00, 0x00, 0x00] { setShadowBank Bank.empty s with
      shadow := .editable, mode := .running, boot := none
      notices := { s.notices with bootDone := .queued, bootOutcome := none } } := by
  obtain ⟨bankA, bankB, h⟩ := setShadowBank_eq Bank.empty s
  rw [endBootEmpty, h]
  exact reportBoot_of_roomy _ hmask hroomy

theorem endBootEmpty_of_full {s : State} (hmask : s.notices.mask.getLsbD 0 = true) (hfull : 4 ≤ s.localQ.length) : endBootEmpty s =
    { setShadowBank Bank.empty s with
      shadow := .editable, mode := .running, boot := none
      notices := { s.notices with bootDone := .pending, bootOutcome := some .empty } } := by
  obtain ⟨bankA, bankB, h⟩ := setShadowBank_eq Bank.empty s
  rw [endBootEmpty, h]
  exact reportBoot_of_full _ hmask hfull

/-- Settles O47. -/
theorem scanCompletes : Obligations.ScanCompletes := by
  refine ⟨⟨fun info crc => ⟨fun h => if_pos h, fun h => if_neg h⟩, rfl, rfl, rfl⟩, fun s hrun hop => ?_⟩
  have hboot {r : BootRecord} (h : s.boot = some r) : exec .scanComplete s = .next (chooseCandidate (scanned s)) := by
    rw [exec_scanComplete hrun hop, if_neg (by rw [h]; nofun)]
  have hkept (h : s.boot = none) : exec .scanComplete s = .next (reportBoot .kept (scanned s)) := by
    rw [exec_scanComplete hrun hop, if_pos h]
  refine ⟨fun r slot generation h hcandidate => ?_, fun r h hcandidate hmask => ?_, fun r h hcandidate hmask hroomy => ?_,
    fun r h hcandidate hmask hfull => ?_, fun h hmask => ?_, fun h hmask hfull => ?_, fun h hmask hroomy => ?_⟩
  · exact (hboot h).trans (congrArg _ (chooseCandidate_of_some (s := scanned s) h hcandidate))
  · rw [hboot h, chooseCandidate_of_none (s := scanned s) h hcandidate]
    exact congrArg _ (endBootEmpty_of_disabled (s := scanned s) hmask)
  · rw [hboot h, chooseCandidate_of_none (s := scanned s) h hcandidate]
    exact congrArg _ (endBootEmpty_of_roomy (s := scanned s) hmask hroomy)
  · rw [hboot h, chooseCandidate_of_none (s := scanned s) h hcandidate]
    exact congrArg _ (endBootEmpty_of_full (s := scanned s) hmask hfull)
  · exact (hkept h).trans (congrArg _ (reportBoot_of_disabled (s := scanned s) _ hmask))
  · exact (hkept h).trans (congrArg _ (reportBoot_of_full (s := scanned s) _ hmask hfull))
  · exact (hkept h).trans (congrArg _ (reportBoot_of_roomy (s := scanned s) _ hmask hroomy))

/-! ### The boot's loads and tests (R189 to R192) -/

/-- The content of the SHADOW bank does not depend on what else a state holds. -/
theorem setShadowBank_withStore (b : Bank) (s : State) (shadow : Shadow) (commit : Option CommitRecord) (store : StoreController) :
    setShadowBank b { s with shadow := shadow, commit := commit, store := store } =
      { setShadowBank b s with shadow := shadow, commit := commit, store := store } := by
  unfold setShadowBank
  cases s.active <;> rfl

/-- R192: a boot that ends without a candidate leaves the same state whatever the shadow was. -/
theorem endBootEmpty_withShadow (s : State) (shadow : Shadow) : endBootEmpty { s with shadow := shadow } = endBootEmpty s := by
  have h : setShadowBank Bank.empty { s with shadow := shadow } = { setShadowBank Bank.empty s with shadow := shadow } := by
    unfold setShadowBank
    cases s.active <;> rfl
  rw [endBootEmpty, h]
  rfl

/-- R189: after a failure with no candidate left the boot ends. -/
theorem chooseCandidate_of_spent {s : State} {r : BootRecord} (shadow : Shadow) (hboot : s.boot = some r)
    (hnone : candidate s.store r.tried = none) : chooseCandidate { s with shadow := shadow } = endBootEmpty s :=
  (chooseCandidate_of_none (s := { s with shadow := shadow }) hboot hnone).trans (endBootEmpty_withShadow s shadow)

theorem deliverLoad_of_boot {s : State} {r : BootRecord} {slot : Fin 4} {b : Bank} {header : Header} {body : Option (List Byte)}
    (hboot : s.boot = some r) (hslot : s.nv.slots[slot] = { header := header, body := body }) :
    deliverLoad none slot b s = { setShadowBank b s with
      store := { s.store with op := none, buffer := body }
      shadow := .validating .boot none
      commit := some { origin := .boot, tag := none, mode := .now, timeout := 0, timer := false }
      boot := some { r with phase := .test } } := by
  have hloaded := setShadowBank_withStore b s .editable s.commit { s.store with op := none, buffer := body }
  rw [deliverLoad, endLoad_eq hslot]
  dsimp only at hloaded ⊢
  rw [hloaded, startBootTest]
  dsimp only
  rw [setShadowBank_boot, hboot]
  rfl

theorem failLoad_of_boot {s : State} {slot : Fin 4} {info : SlotInfo} {header : Header} {body : Option (List Byte)}
    (hslot : s.nv.slots[slot] = { header := header, body := body }) (hentry : s.store.table[slot] = .valid info) :
    failLoad none slot s = chooseCandidate { s with
      shadow := .editable
      store := { s.store with op := none, buffer := body, table := s.store.table.set slot (.damaged info) } } := by
  rw [failLoad, setEntry_damaged hslot hentry]

/-- R63: a commit of the boot raises no notice. -/
theorem endCommit_of_boot {s : State} (what : Completion) (h : ∀ c, s.commit = some c → c.origin = .boot) :
    endCommit what s = { s with shadow := .editable, commit := none } := by
  cases hcommit : s.commit with
  | none => simp only [endCommit, hcommit]
  | some c =>
    obtain ⟨origin, tag, mode, timeout, timer⟩ := c
    cases show origin = .boot from h _ hcommit
    simp only [endCommit, hcommit]

theorem exec_testComplete_of_boot {s : State} {t : Option Byte} (hrun : s.held = false) (hshadow : s.shadow = .validating .boot t) :
    (∀ fault, testBank (shadowBank s) = some fault →
      exec .testComplete s = .next (chooseCandidate (endCommit (.commitInvalid fault) s))) ∧
      (testBank (shadowBank s) = none → exec .testComplete s = .next (swapIfIdle (arm s))) := by
  refine ⟨fun fault htest => ?_, fun htest => ?_⟩ <;> refine (unlessHeld_of_running _ hrun).trans (congrArg _ ?_) <;>
    simp only [hshadow, htest]

/-- R191: the swap of a boot's candidate ends the boot. -/
theorem swapIfIdle_of_boot {s : State} {r : BootRecord} {slot : Fin 4} {generation : Word} (hboot : s.boot = some r)
    (hcandidate : r.candidate = some (slot, generation))
    (hcommit : s.commit = some { origin := .boot, tag := none, mode := .now, timeout := 0, timer := false })
    (hstage : s.stage = .idle) : swapIfIdle (arm s) = reportBoot (.loaded slot generation)
      { afterSwap (setShadowBank (recordEmits (shadowBank s)) s) with mode := .running, boot := none } := by
  have harm : (arm s).commit = some { origin := .boot, tag := none, mode := .now, timeout := 0, timer := false } := by
    rw [arm_eq hcommit]
    rfl
  have hrecord : (afterSwap (setShadowBank (recordEmits (shadowBank s)) s)).boot = some r :=
    (setShadowBank_boot _ _).trans hboot
  obtain ⟨phase, kept, tried⟩ := r
  cases hcandidate
  rw [swapIfIdle_of_idle (s := arm s) ((setShadowBank_stage _ _).trans hstage), betweenFrames_of_now rfl harm rfl,
    swap_eq_afterSwap, harm]
  dsimp only
  rw [afterSwap_arm hcommit, endBootLoaded]
  rw [hrecord]

/-- Settles O49. -/
theorem bootTriesItsCandidates : Obligations.BootTriesItsCandidates := by
  refine ⟨fun s r slot next info crc body generation hrun hboot => ⟨fun hop hslot hentry => ⟨fun b hb hbody hcrc => ?_,
    fun hcrc => ?_⟩, fun fault tag hshadow hfault hcommit => ?_⟩,
    fun s r tag slot generation hrun hboot hcandidate hshadow hcommit hstage hpassed => ?_⟩
  · rw [exec_loadComplete_of_match hrun hop hslot hb hbody hcrc, deliverLoad_of_boot hboot hslot]
  · have hexec := (exec_loadComplete_of_mismatch hrun hop hslot hcrc).trans (congrArg _ (failLoad_of_boot hslot hentry))
    refine ⟨fun hnext => ?_, fun hnone => ?_⟩
    · exact hexec.trans (congrArg _ (chooseCandidate_of_some hboot hnext))
    · have hend := hexec.trans (congrArg _ (chooseCandidate_of_spent (s := { s with store := { s.store with
        op := none, buffer := some body, table := s.store.table.set slot (.damaged info) } }) .editable hboot hnone))
      exact ⟨fun hmask => hend.trans (congrArg _ (endBootEmpty_of_disabled hmask)),
        fun hmask hroomy => hend.trans (congrArg _ (endBootEmpty_of_roomy hmask hroomy)),
        fun hmask hfull => hend.trans (congrArg _ (endBootEmpty_of_full hmask hfull))⟩
  · have hexec := (exec_testComplete_of_boot hrun hshadow).1 fault hfault
    rw [endCommit_of_boot _ hcommit] at hexec
    refine ⟨fun hnext => ?_, fun hnone => ?_⟩
    · exact hexec.trans (congrArg _ (chooseCandidate_of_some hboot hnext))
    · have hend := hexec.trans (congrArg _ (chooseCandidate_of_spent (s := { s with commit := none }) .editable hboot hnone))
      exact ⟨fun hmask => hend.trans (congrArg _ (endBootEmpty_of_disabled hmask)),
        fun hmask hroomy => hend.trans (congrArg _ (endBootEmpty_of_roomy hmask hroomy)),
        fun hmask hfull => hend.trans (congrArg _ (endBootEmpty_of_full hmask hfull))⟩
  · have hexec := ((exec_testComplete_of_boot hrun hshadow).2 hpassed).trans
      (congrArg _ (swapIfIdle_of_boot hboot hcandidate hcommit hstage))
    obtain ⟨bankA, bankB, hbanks⟩ := setShadowBank_eq (recordEmits (shadowBank s)) s
    intro swapped
    dsimp only [swapped]
    rw [hbanks] at hexec ⊢
    exact ⟨fun hmask => hexec.trans (congrArg _ (reportBoot_of_disabled _ hmask)),
      fun hmask hroomy => hexec.trans (congrArg _ (reportBoot_of_roomy _ hmask hroomy)),
      fun hmask hfull => hexec.trans (congrArg _ (reportBoot_of_full _ hmask hfull))⟩

end Sys2Proof.Machine

/-! O34: the test of a bank and the order of its checks. -/

namespace Sys2Proof.Machine

/-! ### The checks in their order (R15 to R18) -/

/-- R16: the check of a curve. -/
def curveChecks (i : Fin 32) : List TestFault := [{ kind := .curveOrder, index := ⟨i.val, by omega⟩ }]

/-- R17: the checks of a slot, in their order. -/
def slotChecks (i : Fin 64) : List TestFault :=
  [{ kind := .dupKey, index := i }, { kind := .curveMissing, index := i }, { kind := .outposDup, index := i }]

/-- R18: the checks of a group, in their order. -/
def groupChecks (g : Fin 16) : List TestFault :=
  [{ kind := .groupEmpty, index := ⟨g.val, by omega⟩ }, { kind := .outposHole, index := ⟨g.val, by omega⟩ },
    { kind := .groupClash, index := ⟨g.val, by omega⟩ }]

/-- R15: all checks of a bank, in the order of the test. -/
def allChecks : List TestFault :=
  (List.finRange 32).flatMap curveChecks ++ ((List.finRange 64).flatMap slotChecks ++ (List.finRange 16).flatMap groupChecks)

theorem allChecks_sorted : allChecks.Pairwise fun f g => checkPlace f < checkPlace g := by
  have hchain : allChecks.IsChain fun f g => checkPlace f < checkPlace g := by decide +kernel
  have : IsTrans TestFault fun f g => checkPlace f < checkPlace g := ⟨fun _ _ _ => Nat.lt_trans⟩
  exact List.isChain_iff_pairwise.mp hchain

/-- Every check that can fail stands in the list. -/
theorem mem_allChecks {b : Bank} {f : TestFault} (h : CheckFails b f) : f ∈ allChecks := by
  have hcurve (i : Fin 32) : { kind := .curveOrder, index := ⟨i.val, by omega⟩ } ∈ allChecks :=
    List.mem_append_left _ (List.mem_flatMap.mpr ⟨i, List.mem_finRange i, List.mem_singleton_self _⟩)
  have hslot {f : TestFault} (i : Fin 64) (hf : f ∈ slotChecks i) : f ∈ allChecks :=
    List.mem_append_right _ (List.mem_append_left _ (List.mem_flatMap.mpr ⟨i, List.mem_finRange i, hf⟩))
  have hgroup {f : TestFault} (g : Fin 16) (hf : f ∈ groupChecks g) : f ∈ allChecks :=
    List.mem_append_right _ (List.mem_append_right _ (List.mem_flatMap.mpr ⟨g, List.mem_finRange g, hf⟩))
  obtain ⟨kind, index⟩ := f
  cases kind with
  | curveOrder =>
    obtain ⟨i, -, hi, -⟩ := h
    rw [show index = ⟨i.val, i.isLt.trans (by decide)⟩ from Fin.ext hi.symm]
    exact hcurve i
  | dupKey => exact hslot index (by simp [slotChecks])
  | curveMissing => exact hslot index (by simp [slotChecks])
  | outposDup => exact hslot index (by simp [slotChecks])
  | groupEmpty =>
    obtain ⟨g, hg, -⟩ := h
    rw [show index = ⟨g.val, g.isLt.trans (by decide)⟩ from Fin.ext hg.symm]
    exact hgroup g (by simp [groupChecks])
  | outposHole =>
    obtain ⟨g, hg, -⟩ := h
    rw [show index = ⟨g.val, g.isLt.trans (by decide)⟩ from Fin.ext hg.symm]
    exact hgroup g (by simp [groupChecks])
  | groupClash =>
    obtain ⟨g, -, hg, -⟩ := h
    rw [show index = ⟨g.val, g.isLt.trans (by decide)⟩ from Fin.ext hg.symm]
    exact hgroup g (by simp [groupChecks])

/-- The first element that has a property, of a list in ascending places, is the one with the least place. -/
theorem find?_eq_some_iff_least {α : Type} {place : α → Nat} {p : α → Bool} {l : List α}
    (hsorted : l.Pairwise fun a b => place a < place b) (hall : ∀ a, p a = true → a ∈ l) (a : α) :
    l.find? p = some a ↔ p a = true ∧ ∀ other, p other = true → place a ≤ place other := by
  have hleast {a : α} (h : l.find? p = some a) {other : α} (hother : p other = true) : other = a ∨ place a < place other := by
    obtain ⟨-, before, after, rfl, hbefore⟩ := List.find?_eq_some_iff_append.mp h
    obtain hmem | hmem | hmem := (List.mem_append.mp (hall other hother)).imp_right List.mem_cons.mp
    · exact absurd hother (by simpa using hbefore other hmem)
    · exact .inl hmem
    · exact .inr ((List.pairwise_cons.mp (List.pairwise_append.mp hsorted).2.1).1 other hmem)
  constructor
  · refine fun h => ⟨List.find?_some h, fun other hother => ?_⟩
    obtain rfl | hlt := hleast h hother
    · exact Nat.le_refl _
    · exact Nat.le_of_lt hlt
  · rintro ⟨ha, hmin⟩
    obtain ⟨first, hfirst⟩ := Option.isSome_iff_exists.mp (List.find?_isSome.mpr ⟨a, hall a ha, ha⟩)
    obtain rfl | hlt := hleast hfirst ha
    · exact hfirst
    · exact absurd (hmin first (List.find?_some hfirst)) (Nat.not_le.mpr hlt)

/-! ### Each check as the test makes it (R16 to R18) -/

theorem length_curvePoints (b : Bank) (c : CurveDef) : (curvePoints b c).length = min c.count (256 - c.start.val) := by
  simp [curvePoints]

theorem curvePoints_getElem {b : Bank} {c : CurveDef} {j : Nat} (h : j < (curvePoints b c).length)
    (hj : c.start.val + j < 256) : (curvePoints b c)[j] = b.points[c.start.val + j] := by
  simp [curvePoints]

/-- R12: the points of a curve are out of order exactly when some neighbours are. -/
theorem curveUnordered_iff (b : Bank) (c : CurveDef) : CurveUnordered b c ↔ ordered (curvePoints b c) = false := by
  rw [← Bool.not_eq_true, ordered_iff_isChain, List.isChain_iff_getElem]
  have hlength := length_curvePoints b c
  constructor
  · rintro ⟨j, hpool, hcount, hle⟩ h
    have hlt := h j (by omega)
    rw [curvePoints_getElem _ (by omega), curvePoints_getElem _ (by omega)] at hlt
    exact absurd hlt (Int.not_lt.mpr hle)
  · intro h
    push_neg at h
    obtain ⟨j, hj, hle⟩ := h
    refine ⟨j, by omega, by omega, ?_⟩
    rw [curvePoints_getElem _ (by omega), curvePoints_getElem _ (by omega)] at hle
    exact hle

theorem mem_usedSlots {b : Bank} {s : Fin 64} {e : MapEntry} : (s, e) ∈ usedSlots b ↔ b.slots[s] = some e := by
  simp [usedSlots, List.mem_filterMap]

theorem mem_groupSlots {b : Bank} {g : Fin 16} {s : Fin 64} {e : MapEntry} :
    (s, e) ∈ groupSlots b g ↔ b.slots[s] = some e ∧ e.group = g := by
  rw [groupSlots, List.mem_filter, mem_usedSlots, beq_iff_eq]

theorem length_groupSlots (b : Bank) (g : Fin 16) : (groupSlots b g).length = slotsOf b g := by
  rw [groupSlots, usedSlots, List.filter_filterMap, List.length_filterMap_eq_countP, slotsOf]
  refine List.countP_congr fun s _ => ?_
  cases hslot : b.slots[s] with
  | none => simp
  | some e => by_cases hgroup : e.group = g <;> simp [hgroup]

/-- R17: whether a lower slot in use agrees with an entry. -/
theorem any_below_iff {b : Bank} {s : Fin 64} {q : MapEntry → Bool} :
    ((usedSlots b).filter fun te => te.1 < s).any (fun te => q te.2) = true ↔
      ∃ (t : Fin 64) (below : MapEntry), t < s ∧ b.slots[t] = some below ∧ q below = true := by
  simp only [List.any_eq_true, List.mem_filter, decide_eq_true_iff, Prod.exists, mem_usedSlots]
  exact exists_congr fun t => exists_congr fun below => ⟨fun ⟨⟨h, hlt⟩, hq⟩ => ⟨hlt, h, hq⟩, fun ⟨hlt, h, hq⟩ => ⟨⟨h, hlt⟩, hq⟩⟩

theorem find?_three (p : TestFault → Bool) (f g h : TestFault) : [f, g, h].find? p =
    if p f = true then some f else if p g = true then some g else if p h = true then some h else none := by
  cases hf : p f <;> cases hg : p g <;> cases hh : p h <;> simp [List.find?_cons, hf, hg, hh]

/-- R17: the second and the third check of a slot are made in a PROCESS group alone. -/
theorem slotChecks_nested (first process second third : Bool) (f g h : TestFault) :
    (if first = true then some f
      else if process = true then (if second = true then some g else if third = true then some h else none) else none) =
      if first = true then some f
      else if (process && second) = true then some g else if (process && third) = true then some h else none := by
  cases first <;> cases process <;> rfl

/-- R18: whether the output positions of a group's slots are exactly 0 to k - 1. -/
theorem positionsFill_iff (b : Bank) (g : Fin 16) : positionsFill (groupSlots b g) = true ↔
    ∀ q, q < slotsOf b g ↔ ∃ (s : Fin 64) (e : MapEntry), b.slots[s] = some e ∧ e.group = g ∧ e.out.val = q := by
  simp only [positionsFill, Bool.and_eq_true, List.all_eq_true, List.any_eq_true, decide_eq_true_iff, beq_iff_eq,
    List.mem_range, Prod.forall, Prod.exists, mem_groupSlots, length_groupSlots]
  constructor
  · rintro ⟨hbelow, hfilled⟩ q
    constructor
    · intro hq
      obtain ⟨s, e, ⟨hslot, hgroup⟩, hout⟩ := hfilled q hq
      exact ⟨s, e, hslot, hgroup, hout⟩
    · rintro ⟨s, e, hslot, hgroup, rfl⟩
      exact hbelow s e ⟨hslot, hgroup⟩
  · intro h
    refine ⟨fun s e ⟨hslot, hgroup⟩ => (h _).mpr ⟨s, e, hslot, hgroup, rfl⟩, fun q hq => ?_⟩
    obtain ⟨s, e, hslot, hgroup, hout⟩ := (h q).mp hq
    exact ⟨s, e, ⟨hslot, hgroup⟩, hout⟩

theorem emittedNumber_eq (b : Bank) (g : Fin 16) :
    emittedNumber b g = if modeOf b g = .block then none else some (emitsUnder b g) := by
  unfold emittedNumber emitsUnder modeOf
  cases (b.groups[g]).mode <;> rfl

/-- R18: a group clashes with a lower one when both emit, under one number. -/
theorem groupClash_iff (b : Bank) (g h : Fin 16) : ((emittedNumber b g).isSome = true ∧ emittedNumber b h = emittedNumber b g) ↔
    modeOf b g ≠ .block ∧ modeOf b h ≠ .block ∧ emitsUnder b g = emitsUnder b h := by
  rw [emittedNumber_eq, emittedNumber_eq]
  by_cases hg : modeOf b g = .block
  · simp [hg]
  · by_cases hh : modeOf b h = .block
    · simp [hg, hh]
    · simp [hg, hh, eq_comm]

section
variable {b : Bank} {p : TestFault → Bool} (hp : ∀ f, p f = true ↔ CheckFails b f)
include hp

theorem curveFault_eq (i : Fin 32) : curveFault b i = (curveChecks i).find? p := by
  have hcheck : p { kind := .curveOrder, index := ⟨i.val, by omega⟩ } = true ↔ ∃ c, b.curves[i] = some c ∧ CurveUnordered b c := by
    rw [hp]
    constructor
    · rintro ⟨j, c, hj, hc, hunordered⟩
      obtain rfl : j = i := Fin.ext hj
      exact ⟨c, hc, hunordered⟩
    · rintro ⟨c, hc, hunordered⟩
      exact ⟨i, c, rfl, hc, hunordered⟩
  rw [curveChecks, List.find?_singleton]
  unfold curveFault
  cases hcurve : b.curves[i] with
  | none =>
    rw [if_neg (fun h => by obtain ⟨c, hc, -⟩ := hcheck.mp h; rw [hcurve] at hc; cases hc)]
  | some c =>
    have hcheck' : p { kind := .curveOrder, index := ⟨i.val, by omega⟩ } = true ↔ ordered (curvePoints b c) = false := by
      rw [hcheck, hcurve, ← curveUnordered_iff]
      exact ⟨fun ⟨d, hd, h⟩ => Option.some.inj hd ▸ h, fun h => ⟨c, rfl, h⟩⟩
    dsimp only
    cases hordered : ordered (curvePoints b c) with
    | true => rw [if_pos rfl, if_neg (fun h => by rw [hcheck', hordered] at h; cases h)]
    | false => rw [if_neg nofun, if_pos (hcheck'.mpr hordered)]

theorem slotFault_eq (s : Fin 64) : slotFault b s = (slotChecks s).find? p := by
  cases hslot : b.slots[s] with
  | none =>
    have hpasses {f : TestFault} (hf : f ∈ slotChecks s) : p f = false := by
      rw [← Bool.not_eq_true, hp]
      simp only [slotChecks, List.mem_cons, List.not_mem_nil, or_false] at hf
      obtain rfl | rfl | rfl := hf <;> simp [CheckFails, hslot]
    simp only [slotFault, hslot]
    exact (List.find?_eq_none.mpr fun f hf => by rw [hpasses hf]; nofun).symm
  | some e =>
    have hdup : p { kind := .dupKey, index := s } =
        ((usedSlots b).filter fun te => te.1 < s).any (fun te => te.2.group == e.group && te.2.pos == e.pos) := by
      rw [Bool.eq_iff_iff, hp, any_below_iff (q := fun below => below.group == e.group && below.pos == e.pos)]
      simp [CheckFails, hslot]
    have hmissing : p { kind := .curveMissing, index := s } =
        (modeOf b e.group == .process && (e.action == .correct && (b.curves[e.curve]).isNone)) := by
      rw [Bool.eq_iff_iff, hp]
      simp [CheckFails, hslot, modeOf]
    have houtpos : p { kind := .outposDup, index := s } = (modeOf b e.group == .process &&
        ((usedSlots b).filter fun te => te.1 < s).any (fun te => te.2.group == e.group && te.2.out == e.out)) := by
      rw [Bool.eq_iff_iff, hp, Bool.and_eq_true, any_below_iff (q := fun below => below.group == e.group && below.out == e.out)]
      simp [CheckFails, hslot, modeOf]
    rw [slotChecks, find?_three, hdup, hmissing, houtpos]
    simp only [slotFault, hslot]
    exact slotChecks_nested _ _ _ _ _ _ _

theorem groupFault_eq (g : Fin 16) : groupFault b g = (groupChecks g).find? p := by
  have hempty : p { kind := .groupEmpty, index := ⟨g.val, by omega⟩ } = (modeOf b g == .process && (groupSlots b g).isEmpty) := by
    rw [Bool.eq_iff_iff, hp, Bool.and_eq_true, beq_iff_eq, List.isEmpty_iff_length_eq_zero, length_groupSlots]
    exact ⟨fun ⟨h, hg, hmode, hnone⟩ => by obtain rfl : h = g := Fin.ext hg; exact ⟨hmode, hnone⟩,
      fun ⟨hmode, hnone⟩ => ⟨g, rfl, hmode, hnone⟩⟩
  have hhole : p { kind := .outposHole, index := ⟨g.val, by omega⟩ } =
      (modeOf b g == .process && !(positionsFill (groupSlots b g))) := by
    rw [Bool.eq_iff_iff, hp, Bool.and_eq_true, beq_iff_eq, Bool.not_eq_true', ← Bool.not_eq_true, positionsFill_iff]
    exact ⟨fun ⟨h, hg, hmode, hnone⟩ => by obtain rfl : h = g := Fin.ext hg; exact ⟨hmode, hnone⟩,
      fun ⟨hmode, hnone⟩ => ⟨g, rfl, hmode, hnone⟩⟩
  have hclash : p { kind := .groupClash, index := ⟨g.val, by omega⟩ } = ((emittedNumber b g).isSome &&
      (List.finRange 16).any (fun h => decide (h < g) && emittedNumber b h == emittedNumber b g)) := by
    rw [Bool.eq_iff_iff, hp, Bool.and_eq_true, List.any_eq_true]
    simp only [List.mem_finRange, true_and, Bool.and_eq_true, decide_eq_true_iff, beq_iff_eq]
    constructor
    · rintro ⟨g', h, hg, hlt, hmodeg, hmodeh, hsame⟩
      obtain rfl : g' = g := Fin.ext hg
      obtain ⟨hsome, heq⟩ := (groupClash_iff b g' h).mpr ⟨hmodeg, hmodeh, hsame⟩
      exact ⟨hsome, h, hlt, heq⟩
    · rintro ⟨hsome, h, hlt, heq⟩
      obtain ⟨hmodeg, hmodeh, hsame⟩ := (groupClash_iff b g h).mp ⟨hsome, heq⟩
      exact ⟨g, h, rfl, hlt, hmodeg, hmodeh, hsame⟩
  rw [groupChecks, find?_three, hempty, hhole, hclash]
  rfl

/-- R15: the test finds the first check that fails. -/
theorem testBank_eq_find? : testBank b = allChecks.find? p := by
  rw [allChecks, List.find?_append, List.find?_append, List.find?_flatMap, List.find?_flatMap, List.find?_flatMap]
  rw [← funext (curveFault_eq hp), ← funext (slotFault_eq hp), ← funext (groupFault_eq hp), testBank]

end

theorem exists_checkFails (b : Bank) : ∃ p : TestFault → Bool, ∀ f, p f = true ↔ CheckFails b f := by
  classical
  exact ⟨fun f => decide (CheckFails b f), fun f => decide_eq_true_iff⟩

theorem testBank_eq_none_iff (b : Bank) : testBank b = none ↔ ∀ fault, ¬ CheckFails b fault := by
  obtain ⟨p, hp⟩ := exists_checkFails b
  rw [testBank_eq_find? hp, List.find?_eq_none]
  exact ⟨fun h f hf => h f (mem_allChecks hf) ((hp f).mpr hf), fun h f _ hf => h f ((hp f).mp hf)⟩

theorem testBank_eq_some_iff (b : Bank) (fault : TestFault) : testBank b = some fault ↔
    CheckFails b fault ∧ ∀ other, CheckFails b other → checkPlace fault ≤ checkPlace other := by
  obtain ⟨p, hp⟩ := exists_checkFails b
  rw [testBank_eq_find? hp, find?_eq_some_iff_least allChecks_sorted fun f hf => mem_allChecks ((hp f).mp hf)]
  simp only [hp]

/-! ### A bank that passes (R18) -/

section
variable {b : Bank} {g : Fin 16} (hpassed : testBank b = none) (hprocess : modeOf b g = .process)
include hpassed hprocess

theorem positions_of_passed (q : Nat) : q < slotsOf b g ↔ ∃ (s : Fin 64) (e : MapEntry), b.slots[s] = some e ∧ e.group = g ∧ e.out.val = q := by
  by_contra h
  exact (testBank_eq_none_iff b).mp hpassed { kind := .outposHole, index := ⟨g.val, by omega⟩ }
    ⟨g, rfl, hprocess, fun hall => h (hall q)⟩

theorem slotsOf_pos_of_passed : 1 ≤ slotsOf b g := by
  refine Nat.pos_of_ne_zero fun h => ?_
  exact (testBank_eq_none_iff b).mp hpassed { kind := .groupEmpty, index := ⟨g.val, by omega⟩ } ⟨g, rfl, hprocess, h⟩

/-- R18: an output position is below 16, so no more than 16 positions are filled. -/
theorem slotsOf_le_of_passed : slotsOf b g ≤ 16 := by
  by_contra h
  obtain ⟨s, e, -, -, hout⟩ := (positions_of_passed hpassed hprocess 16).mp (by omega)
  omega

/-- R17: no two slots of the group share an output position. -/
theorem slot_eq_of_out {s t : Fin 64} {e d : MapEntry} (hs : (s, e) ∈ groupSlots b g) (ht : (t, d) ∈ groupSlots b g)
    (hout : d.out.val = e.out.val) : t = s := by
  obtain ⟨hs, hes⟩ := mem_groupSlots.mp hs
  obtain ⟨ht, hdt⟩ := mem_groupSlots.mp ht
  have hnone := (testBank_eq_none_iff b).mp hpassed
  have hout' : d.out = e.out := Fin.ext hout
  obtain hlt | heq | hlt := lt_trichotomy t s
  · exact absurd ⟨t, e, d, hs, (congrArg (modeOf b) hes).trans hprocess, hlt, ht, hdt.trans hes.symm, hout'⟩
      (hnone { kind := .outposDup, index := s })
  · exact heq
  · exact absurd ⟨s, d, e, ht, (congrArg (modeOf b) hdt).trans hprocess, hlt, hs, hes.trans hdt.symm, hout'.symm⟩
      (hnone { kind := .outposDup, index := t })

theorem emitCount_of_passed : (emitCount b g).val = (groupSlots b g).length := by
  have hle := slotsOf_le_of_passed hpassed hprocess
  rw [emitCount, hprocess, length_groupSlots]
  exact Nat.mod_eq_of_lt (Nat.lt_succ_of_le hle)

theorem unique_position_of_passed {q : Nat} (hq : q < (groupSlots b g).length) :
    ∃ se ∈ groupSlots b g, se.2.out.val = q ∧ ∀ te ∈ groupSlots b g, te.2.out.val = q → te = se := by
  rw [length_groupSlots] at hq
  obtain ⟨s, e, hslot, hgroup, hout⟩ := (positions_of_passed hpassed hprocess q).mp hq
  have hmem : (s, e) ∈ groupSlots b g := mem_groupSlots.mpr ⟨hslot, hgroup⟩
  refine ⟨(s, e), hmem, hout, fun ⟨t, d⟩ ht hd => ?_⟩
  obtain rfl := slot_eq_of_out hpassed hprocess hmem ht (hd.trans hout.symm)
  cases (mem_groupSlots.mp ht).1.symm.trans hslot
  rfl

end

theorem emitCount_eq (b : Bank) (g : Fin 16) (h : modeOf b g ≠ .process) : emitCount b g = 0 := by
  unfold emitCount
  split
  next hmode => exact absurd hmode h
  next => rfl

/-- Settles O34: the first of the checks in their order. -/
theorem validBanksFillTheirGroups : Obligations.ValidBanksFillTheirGroups := by
  refine ⟨⟨fun g => by simp [Bank.empty], fun i => by simp [Bank.empty], fun i => by simp [Bank.empty],
      fun i => by simp [Bank.empty], testBank_empty, recordEmits_empty⟩,
    fun b => ⟨testBank_recordEmits b, rfl, rfl, rfl, fun g => ?_⟩, fun b g hpassed hprocess => ⟨?_, ?_, ?_, fun q => ?_⟩,
    fun b => ⟨testBank_eq_none_iff b, testBank_eq_some_iff b⟩⟩
  · rw [recordEmits_groups]
    by_cases hprocess : modeOf b g = .process
    · rw [if_pos hprocess]
    · rw [if_neg hprocess, emitCount_eq b g hprocess]
  · rw [length_groupSlots]
    exact slotsOf_pos_of_passed hpassed hprocess
  · rw [length_groupSlots]
    exact slotsOf_le_of_passed hpassed hprocess
  · exact emitCount_of_passed hpassed hprocess
  · exact unique_position_of_passed hpassed hprocess

end Sys2Proof.Machine
